-- ==== Sys2Proof/Word.lean ====
section
/-! DEFINITION. The word types of LMPF (spec 00_scope.md R9: register values are 32 bits, bytes are 8 bits,
every integer is unsigned). -/

namespace Sys2Proof

/-- A byte: one wire byte, one header field, one buffer location (R9). -/
abbrev Byte := BitVec 8

/-- A register or bus word (R9). -/
abbrev Word := BitVec 32

end Sys2Proof
end

