-- ==== Sys2Proof/Syntax.lean ====
section
/-! DEFINITION. The instructions of LMPF: one constructor per row of spec/opcode_table.json.

Two kinds (spec 00_scope.md R1, 30_encoding.md): host commands written to a port's PCMD register (R111-R113) and the
256 action codes a frame's header selects (R106). A command's operands are registers of its port, so its constructor
carries the port, which is no part of the PCMD word but the address written (45_host_interface.md R310). A frame is
selected "by actionCode only" (spec/opcode_table.json; its rows have no fields), so its constructor is the action code;
the frame's other header bytes are its operands, and they stand where a command's do, in the machine: the RX engine's
`cur`, or `top` for a bundle (10_state.md R40, R41). -/

namespace Sys2Proof

/-- A frame header: the four bytes in wire order (30_encoding.md R100). -/
structure Header where
  /-- byte 0, the declared body length L -/
  len : Byte
  /-- byte 1, the sender address S -/
  sender : Byte
  /-- byte 2, the target address T -/
  target : Byte
  /-- byte 3, the action code C -/
  code : Byte
deriving DecidableEq, Repr

/-- The instructions of LMPF, in the order of spec/opcode_table.json. -/
inductive Instr where
  /-- SEND_MSG, OP 0x01 (44_engine_tx.md R280), issued at port `p` -/
  | sendMsg (p : Nat)
  /-- SEND_BUNDLE, OP 0x02 (44_engine_tx.md R281) -/
  | sendBundle (p : Nat)
  /-- BIND, OP 0x03 (42_dispatch.md R201) -/
  | bind (p : Nat)
  /-- UNBIND, OP 0x04 (42_dispatch.md R202) -/
  | unbind (p : Nat)
  /-- ISUSED, OP 0x05 (42_dispatch.md R203) -/
  | isUsed (p : Nat)
  /-- BAD_COMMAND: any other PCMD word `w` (45_host_interface.md R311) -/
  | badCommand (p : Nat) (w : Word)
  /-- RESERVED_0 (42_dispatch.md R206) -/
  | reserved0
  /-- TEXT (42_dispatch.md R207) -/
  | text
  /-- BUNDLE_HEADER (43_engine_rx.md R246; as a dispatch code 42_dispatch.md R206) -/
  | bundleHeader
  /-- MULT (42_dispatch.md R208) -/
  | mult
  /-- RESERVED_4 (42_dispatch.md R206) -/
  | reserved4
  /-- EXIT (42_dispatch.md R209) -/
  | exit
  /-- RESERVED_6 (42_dispatch.md R206) -/
  | reserved6
  /-- RESERVED_7 (42_dispatch.md R206) -/
  | reserved7
  /-- RESERVED_8 (42_dispatch.md R206) -/
  | reserved8
  /-- RESERVED_9 (42_dispatch.md R206) -/
  | reserved9
  /-- RESERVED_10 (42_dispatch.md R206) -/
  | reserved10
  /-- RESERVED_11 (42_dispatch.md R206) -/
  | reserved11
  /-- RESERVED_12 (42_dispatch.md R206) -/
  | reserved12
  /-- RESERVED_13 (42_dispatch.md R206) -/
  | reserved13
  /-- RESERVED_14 (42_dispatch.md R206) -/
  | reserved14
  /-- RESERVED_15 (42_dispatch.md R206) -/
  | reserved15
  /-- RESERVED_16 (42_dispatch.md R206) -/
  | reserved16
  /-- RESERVED_17 (42_dispatch.md R206) -/
  | reserved17
  /-- RESERVED_18 (42_dispatch.md R206) -/
  | reserved18
  /-- RESERVED_19 (42_dispatch.md R206) -/
  | reserved19
  /-- RESERVED_20 (42_dispatch.md R206) -/
  | reserved20
  /-- RESERVED_21 (42_dispatch.md R206) -/
  | reserved21
  /-- RESERVED_22 (42_dispatch.md R206) -/
  | reserved22
  /-- RESERVED_23 (42_dispatch.md R206) -/
  | reserved23
  /-- RESERVED_24 (42_dispatch.md R206) -/
  | reserved24
  /-- RESERVED_25 (42_dispatch.md R206) -/
  | reserved25
  /-- RESERVED_26 (42_dispatch.md R206) -/
  | reserved26
  /-- RESERVED_27 (42_dispatch.md R206) -/
  | reserved27
  /-- RESERVED_28 (42_dispatch.md R206) -/
  | reserved28
  /-- RESERVED_29 (42_dispatch.md R206) -/
  | reserved29
  /-- RESERVED_30 (42_dispatch.md R206) -/
  | reserved30
  /-- RESERVED_31 (42_dispatch.md R206) -/
  | reserved31
  /-- USER_32 (42_dispatch.md R210, R206) -/
  | user32
  /-- USER_33 (42_dispatch.md R210, R206) -/
  | user33
  /-- USER_34 (42_dispatch.md R210, R206) -/
  | user34
  /-- USER_35 (42_dispatch.md R210, R206) -/
  | user35
  /-- USER_36 (42_dispatch.md R210, R206) -/
  | user36
  /-- USER_37 (42_dispatch.md R210, R206) -/
  | user37
  /-- USER_38 (42_dispatch.md R210, R206) -/
  | user38
  /-- USER_39 (42_dispatch.md R210, R206) -/
  | user39
  /-- USER_40 (42_dispatch.md R210, R206) -/
  | user40
  /-- USER_41 (42_dispatch.md R210, R206) -/
  | user41
  /-- USER_42 (42_dispatch.md R210, R206) -/
  | user42
  /-- USER_43 (42_dispatch.md R210, R206) -/
  | user43
  /-- USER_44 (42_dispatch.md R210, R206) -/
  | user44
  /-- USER_45 (42_dispatch.md R210, R206) -/
  | user45
  /-- USER_46 (42_dispatch.md R210, R206) -/
  | user46
  /-- USER_47 (42_dispatch.md R210, R206) -/
  | user47
  /-- USER_48 (42_dispatch.md R210, R206) -/
  | user48
  /-- USER_49 (42_dispatch.md R210, R206) -/
  | user49
  /-- USER_50 (42_dispatch.md R210, R206) -/
  | user50
  /-- USER_51 (42_dispatch.md R210, R206) -/
  | user51
  /-- USER_52 (42_dispatch.md R210, R206) -/
  | user52
  /-- USER_53 (42_dispatch.md R210, R206) -/
  | user53
  /-- USER_54 (42_dispatch.md R210, R206) -/
  | user54
  /-- USER_55 (42_dispatch.md R210, R206) -/
  | user55
  /-- USER_56 (42_dispatch.md R210, R206) -/
  | user56
  /-- USER_57 (42_dispatch.md R210, R206) -/
  | user57
  /-- USER_58 (42_dispatch.md R210, R206) -/
  | user58
  /-- USER_59 (42_dispatch.md R210, R206) -/
  | user59
  /-- USER_60 (42_dispatch.md R210, R206) -/
  | user60
  /-- USER_61 (42_dispatch.md R210, R206) -/
  | user61
  /-- USER_62 (42_dispatch.md R210, R206) -/
  | user62
  /-- USER_63 (42_dispatch.md R210, R206) -/
  | user63
  /-- USER_64 (42_dispatch.md R210, R206) -/
  | user64
  /-- USER_65 (42_dispatch.md R210, R206) -/
  | user65
  /-- USER_66 (42_dispatch.md R210, R206) -/
  | user66
  /-- USER_67 (42_dispatch.md R210, R206) -/
  | user67
  /-- USER_68 (42_dispatch.md R210, R206) -/
  | user68
  /-- USER_69 (42_dispatch.md R210, R206) -/
  | user69
  /-- USER_70 (42_dispatch.md R210, R206) -/
  | user70
  /-- USER_71 (42_dispatch.md R210, R206) -/
  | user71
  /-- USER_72 (42_dispatch.md R210, R206) -/
  | user72
  /-- USER_73 (42_dispatch.md R210, R206) -/
  | user73
  /-- USER_74 (42_dispatch.md R210, R206) -/
  | user74
  /-- USER_75 (42_dispatch.md R210, R206) -/
  | user75
  /-- USER_76 (42_dispatch.md R210, R206) -/
  | user76
  /-- USER_77 (42_dispatch.md R210, R206) -/
  | user77
  /-- USER_78 (42_dispatch.md R210, R206) -/
  | user78
  /-- USER_79 (42_dispatch.md R210, R206) -/
  | user79
  /-- USER_80 (42_dispatch.md R210, R206) -/
  | user80
  /-- USER_81 (42_dispatch.md R210, R206) -/
  | user81
  /-- USER_82 (42_dispatch.md R210, R206) -/
  | user82
  /-- USER_83 (42_dispatch.md R210, R206) -/
  | user83
  /-- USER_84 (42_dispatch.md R210, R206) -/
  | user84
  /-- USER_85 (42_dispatch.md R210, R206) -/
  | user85
  /-- USER_86 (42_dispatch.md R210, R206) -/
  | user86
  /-- USER_87 (42_dispatch.md R210, R206) -/
  | user87
  /-- USER_88 (42_dispatch.md R210, R206) -/
  | user88
  /-- USER_89 (42_dispatch.md R210, R206) -/
  | user89
  /-- USER_90 (42_dispatch.md R210, R206) -/
  | user90
  /-- USER_91 (42_dispatch.md R210, R206) -/
  | user91
  /-- USER_92 (42_dispatch.md R210, R206) -/
  | user92
  /-- USER_93 (42_dispatch.md R210, R206) -/
  | user93
  /-- USER_94 (42_dispatch.md R210, R206) -/
  | user94
  /-- USER_95 (42_dispatch.md R210, R206) -/
  | user95
  /-- USER_96 (42_dispatch.md R210, R206) -/
  | user96
  /-- USER_97 (42_dispatch.md R210, R206) -/
  | user97
  /-- USER_98 (42_dispatch.md R210, R206) -/
  | user98
  /-- USER_99 (42_dispatch.md R210, R206) -/
  | user99
  /-- USER_100 (42_dispatch.md R210, R206) -/
  | user100
  /-- USER_101 (42_dispatch.md R210, R206) -/
  | user101
  /-- USER_102 (42_dispatch.md R210, R206) -/
  | user102
  /-- USER_103 (42_dispatch.md R210, R206) -/
  | user103
  /-- USER_104 (42_dispatch.md R210, R206) -/
  | user104
  /-- USER_105 (42_dispatch.md R210, R206) -/
  | user105
  /-- USER_106 (42_dispatch.md R210, R206) -/
  | user106
  /-- USER_107 (42_dispatch.md R210, R206) -/
  | user107
  /-- USER_108 (42_dispatch.md R210, R206) -/
  | user108
  /-- USER_109 (42_dispatch.md R210, R206) -/
  | user109
  /-- USER_110 (42_dispatch.md R210, R206) -/
  | user110
  /-- USER_111 (42_dispatch.md R210, R206) -/
  | user111
  /-- USER_112 (42_dispatch.md R210, R206) -/
  | user112
  /-- USER_113 (42_dispatch.md R210, R206) -/
  | user113
  /-- USER_114 (42_dispatch.md R210, R206) -/
  | user114
  /-- USER_115 (42_dispatch.md R210, R206) -/
  | user115
  /-- USER_116 (42_dispatch.md R210, R206) -/
  | user116
  /-- USER_117 (42_dispatch.md R210, R206) -/
  | user117
  /-- USER_118 (42_dispatch.md R210, R206) -/
  | user118
  /-- USER_119 (42_dispatch.md R210, R206) -/
  | user119
  /-- USER_120 (42_dispatch.md R210, R206) -/
  | user120
  /-- USER_121 (42_dispatch.md R210, R206) -/
  | user121
  /-- USER_122 (42_dispatch.md R210, R206) -/
  | user122
  /-- USER_123 (42_dispatch.md R210, R206) -/
  | user123
  /-- USER_124 (42_dispatch.md R210, R206) -/
  | user124
  /-- USER_125 (42_dispatch.md R210, R206) -/
  | user125
  /-- USER_126 (42_dispatch.md R210, R206) -/
  | user126
  /-- USER_127 (42_dispatch.md R210, R206) -/
  | user127
  /-- USER_128 (42_dispatch.md R210, R206) -/
  | user128
  /-- USER_129 (42_dispatch.md R210, R206) -/
  | user129
  /-- USER_130 (42_dispatch.md R210, R206) -/
  | user130
  /-- USER_131 (42_dispatch.md R210, R206) -/
  | user131
  /-- USER_132 (42_dispatch.md R210, R206) -/
  | user132
  /-- USER_133 (42_dispatch.md R210, R206) -/
  | user133
  /-- USER_134 (42_dispatch.md R210, R206) -/
  | user134
  /-- USER_135 (42_dispatch.md R210, R206) -/
  | user135
  /-- USER_136 (42_dispatch.md R210, R206) -/
  | user136
  /-- USER_137 (42_dispatch.md R210, R206) -/
  | user137
  /-- USER_138 (42_dispatch.md R210, R206) -/
  | user138
  /-- USER_139 (42_dispatch.md R210, R206) -/
  | user139
  /-- USER_140 (42_dispatch.md R210, R206) -/
  | user140
  /-- USER_141 (42_dispatch.md R210, R206) -/
  | user141
  /-- USER_142 (42_dispatch.md R210, R206) -/
  | user142
  /-- USER_143 (42_dispatch.md R210, R206) -/
  | user143
  /-- USER_144 (42_dispatch.md R210, R206) -/
  | user144
  /-- USER_145 (42_dispatch.md R210, R206) -/
  | user145
  /-- USER_146 (42_dispatch.md R210, R206) -/
  | user146
  /-- USER_147 (42_dispatch.md R210, R206) -/
  | user147
  /-- USER_148 (42_dispatch.md R210, R206) -/
  | user148
  /-- USER_149 (42_dispatch.md R210, R206) -/
  | user149
  /-- USER_150 (42_dispatch.md R210, R206) -/
  | user150
  /-- USER_151 (42_dispatch.md R210, R206) -/
  | user151
  /-- USER_152 (42_dispatch.md R210, R206) -/
  | user152
  /-- USER_153 (42_dispatch.md R210, R206) -/
  | user153
  /-- USER_154 (42_dispatch.md R210, R206) -/
  | user154
  /-- USER_155 (42_dispatch.md R210, R206) -/
  | user155
  /-- USER_156 (42_dispatch.md R210, R206) -/
  | user156
  /-- USER_157 (42_dispatch.md R210, R206) -/
  | user157
  /-- USER_158 (42_dispatch.md R210, R206) -/
  | user158
  /-- USER_159 (42_dispatch.md R210, R206) -/
  | user159
  /-- USER_160 (42_dispatch.md R210, R206) -/
  | user160
  /-- USER_161 (42_dispatch.md R210, R206) -/
  | user161
  /-- USER_162 (42_dispatch.md R210, R206) -/
  | user162
  /-- USER_163 (42_dispatch.md R210, R206) -/
  | user163
  /-- USER_164 (42_dispatch.md R210, R206) -/
  | user164
  /-- USER_165 (42_dispatch.md R210, R206) -/
  | user165
  /-- USER_166 (42_dispatch.md R210, R206) -/
  | user166
  /-- USER_167 (42_dispatch.md R210, R206) -/
  | user167
  /-- USER_168 (42_dispatch.md R210, R206) -/
  | user168
  /-- USER_169 (42_dispatch.md R210, R206) -/
  | user169
  /-- USER_170 (42_dispatch.md R210, R206) -/
  | user170
  /-- USER_171 (42_dispatch.md R210, R206) -/
  | user171
  /-- USER_172 (42_dispatch.md R210, R206) -/
  | user172
  /-- USER_173 (42_dispatch.md R210, R206) -/
  | user173
  /-- USER_174 (42_dispatch.md R210, R206) -/
  | user174
  /-- USER_175 (42_dispatch.md R210, R206) -/
  | user175
  /-- USER_176 (42_dispatch.md R210, R206) -/
  | user176
  /-- USER_177 (42_dispatch.md R210, R206) -/
  | user177
  /-- USER_178 (42_dispatch.md R210, R206) -/
  | user178
  /-- USER_179 (42_dispatch.md R210, R206) -/
  | user179
  /-- USER_180 (42_dispatch.md R210, R206) -/
  | user180
  /-- USER_181 (42_dispatch.md R210, R206) -/
  | user181
  /-- USER_182 (42_dispatch.md R210, R206) -/
  | user182
  /-- USER_183 (42_dispatch.md R210, R206) -/
  | user183
  /-- USER_184 (42_dispatch.md R210, R206) -/
  | user184
  /-- USER_185 (42_dispatch.md R210, R206) -/
  | user185
  /-- USER_186 (42_dispatch.md R210, R206) -/
  | user186
  /-- USER_187 (42_dispatch.md R210, R206) -/
  | user187
  /-- USER_188 (42_dispatch.md R210, R206) -/
  | user188
  /-- USER_189 (42_dispatch.md R210, R206) -/
  | user189
  /-- USER_190 (42_dispatch.md R210, R206) -/
  | user190
  /-- USER_191 (42_dispatch.md R210, R206) -/
  | user191
  /-- USER_192 (42_dispatch.md R210, R206) -/
  | user192
  /-- USER_193 (42_dispatch.md R210, R206) -/
  | user193
  /-- USER_194 (42_dispatch.md R210, R206) -/
  | user194
  /-- USER_195 (42_dispatch.md R210, R206) -/
  | user195
  /-- USER_196 (42_dispatch.md R210, R206) -/
  | user196
  /-- USER_197 (42_dispatch.md R210, R206) -/
  | user197
  /-- USER_198 (42_dispatch.md R210, R206) -/
  | user198
  /-- USER_199 (42_dispatch.md R210, R206) -/
  | user199
  /-- USER_200 (42_dispatch.md R210, R206) -/
  | user200
  /-- USER_201 (42_dispatch.md R210, R206) -/
  | user201
  /-- USER_202 (42_dispatch.md R210, R206) -/
  | user202
  /-- USER_203 (42_dispatch.md R210, R206) -/
  | user203
  /-- USER_204 (42_dispatch.md R210, R206) -/
  | user204
  /-- USER_205 (42_dispatch.md R210, R206) -/
  | user205
  /-- USER_206 (42_dispatch.md R210, R206) -/
  | user206
  /-- USER_207 (42_dispatch.md R210, R206) -/
  | user207
  /-- USER_208 (42_dispatch.md R210, R206) -/
  | user208
  /-- USER_209 (42_dispatch.md R210, R206) -/
  | user209
  /-- USER_210 (42_dispatch.md R210, R206) -/
  | user210
  /-- USER_211 (42_dispatch.md R210, R206) -/
  | user211
  /-- USER_212 (42_dispatch.md R210, R206) -/
  | user212
  /-- USER_213 (42_dispatch.md R210, R206) -/
  | user213
  /-- USER_214 (42_dispatch.md R210, R206) -/
  | user214
  /-- USER_215 (42_dispatch.md R210, R206) -/
  | user215
  /-- USER_216 (42_dispatch.md R210, R206) -/
  | user216
  /-- USER_217 (42_dispatch.md R210, R206) -/
  | user217
  /-- USER_218 (42_dispatch.md R210, R206) -/
  | user218
  /-- USER_219 (42_dispatch.md R210, R206) -/
  | user219
  /-- USER_220 (42_dispatch.md R210, R206) -/
  | user220
  /-- USER_221 (42_dispatch.md R210, R206) -/
  | user221
  /-- USER_222 (42_dispatch.md R210, R206) -/
  | user222
  /-- USER_223 (42_dispatch.md R210, R206) -/
  | user223
  /-- USER_224 (42_dispatch.md R210, R206) -/
  | user224
  /-- USER_225 (42_dispatch.md R210, R206) -/
  | user225
  /-- USER_226 (42_dispatch.md R210, R206) -/
  | user226
  /-- USER_227 (42_dispatch.md R210, R206) -/
  | user227
  /-- USER_228 (42_dispatch.md R210, R206) -/
  | user228
  /-- USER_229 (42_dispatch.md R210, R206) -/
  | user229
  /-- USER_230 (42_dispatch.md R210, R206) -/
  | user230
  /-- USER_231 (42_dispatch.md R210, R206) -/
  | user231
  /-- USER_232 (42_dispatch.md R210, R206) -/
  | user232
  /-- USER_233 (42_dispatch.md R210, R206) -/
  | user233
  /-- USER_234 (42_dispatch.md R210, R206) -/
  | user234
  /-- USER_235 (42_dispatch.md R210, R206) -/
  | user235
  /-- USER_236 (42_dispatch.md R210, R206) -/
  | user236
  /-- USER_237 (42_dispatch.md R210, R206) -/
  | user237
  /-- USER_238 (42_dispatch.md R210, R206) -/
  | user238
  /-- USER_239 (42_dispatch.md R210, R206) -/
  | user239
  /-- USER_240 (42_dispatch.md R210, R206) -/
  | user240
  /-- USER_241 (42_dispatch.md R210, R206) -/
  | user241
  /-- USER_242 (42_dispatch.md R210, R206) -/
  | user242
  /-- USER_243 (42_dispatch.md R210, R206) -/
  | user243
  /-- USER_244 (42_dispatch.md R210, R206) -/
  | user244
  /-- USER_245 (42_dispatch.md R210, R206) -/
  | user245
  /-- USER_246 (42_dispatch.md R210, R206) -/
  | user246
  /-- USER_247 (42_dispatch.md R210, R206) -/
  | user247
  /-- USER_248 (42_dispatch.md R210, R206) -/
  | user248
  /-- USER_249 (42_dispatch.md R210, R206) -/
  | user249
  /-- USER_250 (42_dispatch.md R210, R206) -/
  | user250
  /-- USER_251 (42_dispatch.md R210, R206) -/
  | user251
  /-- USER_252 (42_dispatch.md R210, R206) -/
  | user252
  /-- USER_253 (42_dispatch.md R210, R206) -/
  | user253
  /-- USER_254 (42_dispatch.md R210, R206) -/
  | user254
  /-- CODE_255: no slot (42_dispatch.md R204) -/
  | code255
deriving DecidableEq, Repr

end Sys2Proof
end

