-- ==== Sys2Proof/Config.lean ====
section
/-! DEFINITION. What an implementation of LMPF fixes (the synthesis parameters of spec 00_scope.md R7), the signals the
environment drives in a cycle (10_state.md R21), and the free values: the constants without a body that stand for what
the spec leaves open. -/

namespace Sys2Proof

/-- The synthesis parameters (00_scope.md R7). They are a field of State, so that a statement about every state is a
statement about every instance (DESIGN CHOICE, log entry 2). -/
structure Params where
  /-- CLK_HZ, the frequency of `clk`, 1 .. 2^32 − 1 -/
  clkHz : Nat
  /-- NPORT, the number of host ports, 1 .. 8 -/
  nport : Nat
  /-- NHANDLER, the number of user-handler identifiers, 1 .. 256 -/
  nhandler : Nat
  /-- FILL, the filler byte of a broken body -/
  fill : Byte
deriving DecidableEq, Repr

/-- The spec defaults of R7; CLK_HZ is OPEN there, and 2400 is the value of the spec's vectors (DESIGN CHOICE,
log entry 2). -/
def Params.default : Params := ⟨2400, 2, 16, 0x00#8⟩

/-- The legal values of R7. -/
abbrev Params.Legal (P : Params) : Prop :=
  (1 ≤ P.clkHz ∧ P.clkHz < 2 ^ 32) ∧ (1 ≤ P.nport ∧ P.nport ≤ 8) ∧ (1 ≤ P.nhandler ∧ P.nhandler ≤ 256)

/-- The input signals of one cycle (10_state.md R21). The values are the environment's (00_scope.md R4); nothing
constrains them here, not even the RX source's promise to hold its byte (log entry 1). -/
structure Input where
  rst : Bool
  rxValid : Bool
  rxData : Byte
  rxFault : Bool
  txReady : Bool
  txFault : Bool
  busValid : Bool
  busWrite : Bool
  /-- the word address, bits [19:2] of the byte address -/
  busAddr : BitVec 18
  busWdata : Word
  busWstrb : BitVec 4
deriving DecidableEq, Repr, Inhabited

/-- A cycle in which the environment drives nothing: no reset, no byte offered or accepted, no bus transaction. -/
def Input.idle : Input := ⟨false, false, 0, false, false, false, false, false, 0, 0, 0⟩

/-- The input of a cycle the model's list of inputs does not reach, by the number of the step: FREE VALUE
(00_scope.md R4 "free inputs of the step (draws)"; log entry 1). -/
opaque Config.freeInput : Nat → Input

/-- What a buffer byte that nothing has written since reset holds, by reset count, buffer (0 is RXBUF, p + 1 is
TXBUF[p]) and offset: FREE VALUE (20_memory.md R72 "returns any byte for a location never written since reset"; log
entry 3). -/
opaque Config.unwrittenByte : Nat → Nat → Nat → Byte

/-- `bus_resp` for a bus write presented in a reset cycle, by the number of the step: FREE VALUE (70 R370 states it for
a read only; log entry 11). -/
opaque Config.resetWriteResp : Nat → Bool

end Sys2Proof
end

