-- ==== Sys2Proof/WellFormed.lean ====
section
/-! DEFINITION. Well-formed instructions: what an encoding of LMPF can carry. -/

namespace Sys2Proof

/-- The PCMD words that name a command (30_encoding.md R112); every other word is BAD_COMMAND (R113). -/
def legalCommandWord (w : Word) : Bool :=
  w == 0x01 || w == 0x02 || w == 0x03 || w == 0x04 || w == 0x05

/-- A command is well formed when its port exists (p < NPORT, 10_state.md R22), and BAD_COMMAND when its word is none of
the five commands (30_encoding.md R113). Every frame is well formed: "every value 0..255 is encodable in every field"
(R102). -/
def Instr.wellFormed (nport : Nat) : Instr → Bool
  | .sendMsg p => p < nport
  | .sendBundle p => p < nport
  | .bind p => p < nport
  | .unbind p => p < nport
  | .isUsed p => p < nport
  | .badCommand p w => p < nport && !legalCommandWord w
  | _ => true

end Sys2Proof
end

