-- ==== Sys2Proof/Decode.lean ====
section
/-! DEFINITION. Decoding and encoding (spec 30_encoding.md). The bits alone do not say what they are: a PCMD word and a
frame header are both 32 bits. Where they come from does, a write to a port's PCMD or the RX stream, and that is the
decoder's first argument. -/

namespace Sys2Proof

/-! ## Byte lanes (20_memory.md R77) -/

/-- Lane `k` of a word: bits [8k+7:8k]. -/
def lane (k : Nat) (w : Word) : Byte := w.extractLsb' (8 * k) 8

/-- The word with the given lanes, lane 0 first. -/
def ofLanes (b0 b1 b2 b3 : Byte) : Word := b3 ++ b2 ++ b1 ++ b0

/-- The four lanes of a word, lane 0 first: the order in which its bytes lie at rising addresses. -/
def lanes (w : Word) : List Byte := [lane 0 w, lane 1 w, lane 2 w, lane 3 w]

/-- A header as a word: wire byte k in lane k (20_memory.md R77, the form of RXF_HDR in 10_state.md R34). -/
def Header.word (h : Header) : Word := ofLanes h.len h.sender h.target h.code

/-- The header in a word, wire byte k from lane k. -/
def Header.ofWord (w : Word) : Header := ⟨lane 0 w, lane 1 w, lane 2 w, lane 3 w⟩

/-! ## Decoding -/

/-- Where an instruction's bits come from. -/
inductive Source where
  /-- a write to PCMD of port `p` (45_host_interface.md R310) -/
  | pcmd (p : Nat)
  /-- the RX byte stream (43_engine_rx.md R241) -/
  | wire
deriving DecidableEq, Repr

/-- Why bytes are no instruction. -/
inductive Rejection where
  /-- fewer than the four bytes of a PCMD word or a header (30_encoding.md R111, R100) -/
  | tooShort (got : Nat)
  /-- a PCMD of a port that does not exist (20_memory.md R71) -/
  | noSuchPort (p : Nat)
deriving DecidableEq, Repr

/-- The command a PCMD word issues at port `p` (R112), BAD_COMMAND where it issues none (R113). -/
def decodeCommand (p : Nat) (w : Word) : Instr :=
  if w = 0x01 then .sendMsg p
  else if w = 0x02 then .sendBundle p
  else if w = 0x03 then .bind p
  else if w = 0x04 then .unbind p
  else if w = 0x05 then .isUsed p
  else .badCommand p w

/-- The rows of the action codes 0 to 31 (R106). -/
def frameRows0 : List Instr :=
  [.reserved0, .text, .bundleHeader, .mult, .reserved4, .exit, .reserved6, .reserved7,
   .reserved8, .reserved9, .reserved10, .reserved11, .reserved12, .reserved13, .reserved14, .reserved15,
   .reserved16, .reserved17, .reserved18, .reserved19, .reserved20, .reserved21, .reserved22, .reserved23,
   .reserved24, .reserved25, .reserved26, .reserved27, .reserved28, .reserved29, .reserved30, .reserved31]

/-- The rows of the action codes 32 to 63 (R106). -/
def frameRows32 : List Instr :=
  [.user32, .user33, .user34, .user35, .user36, .user37, .user38, .user39,
   .user40, .user41, .user42, .user43, .user44, .user45, .user46, .user47,
   .user48, .user49, .user50, .user51, .user52, .user53, .user54, .user55,
   .user56, .user57, .user58, .user59, .user60, .user61, .user62, .user63]

/-- The rows of the action codes 64 to 95 (R106). -/
def frameRows64 : List Instr :=
  [.user64, .user65, .user66, .user67, .user68, .user69, .user70, .user71,
   .user72, .user73, .user74, .user75, .user76, .user77, .user78, .user79,
   .user80, .user81, .user82, .user83, .user84, .user85, .user86, .user87,
   .user88, .user89, .user90, .user91, .user92, .user93, .user94, .user95]

/-- The rows of the action codes 96 to 127 (R106). -/
def frameRows96 : List Instr :=
  [.user96, .user97, .user98, .user99, .user100, .user101, .user102, .user103,
   .user104, .user105, .user106, .user107, .user108, .user109, .user110, .user111,
   .user112, .user113, .user114, .user115, .user116, .user117, .user118, .user119,
   .user120, .user121, .user122, .user123, .user124, .user125, .user126, .user127]

/-- The rows of the action codes 128 to 159 (R106). -/
def frameRows128 : List Instr :=
  [.user128, .user129, .user130, .user131, .user132, .user133, .user134, .user135,
   .user136, .user137, .user138, .user139, .user140, .user141, .user142, .user143,
   .user144, .user145, .user146, .user147, .user148, .user149, .user150, .user151,
   .user152, .user153, .user154, .user155, .user156, .user157, .user158, .user159]

/-- The rows of the action codes 160 to 191 (R106). -/
def frameRows160 : List Instr :=
  [.user160, .user161, .user162, .user163, .user164, .user165, .user166, .user167,
   .user168, .user169, .user170, .user171, .user172, .user173, .user174, .user175,
   .user176, .user177, .user178, .user179, .user180, .user181, .user182, .user183,
   .user184, .user185, .user186, .user187, .user188, .user189, .user190, .user191]

/-- The rows of the action codes 192 to 223 (R106). -/
def frameRows192 : List Instr :=
  [.user192, .user193, .user194, .user195, .user196, .user197, .user198, .user199,
   .user200, .user201, .user202, .user203, .user204, .user205, .user206, .user207,
   .user208, .user209, .user210, .user211, .user212, .user213, .user214, .user215,
   .user216, .user217, .user218, .user219, .user220, .user221, .user222, .user223]

/-- The rows of the action codes 224 to 255 (R106). -/
def frameRows224 : List Instr :=
  [.user224, .user225, .user226, .user227, .user228, .user229, .user230, .user231,
   .user232, .user233, .user234, .user235, .user236, .user237, .user238, .user239,
   .user240, .user241, .user242, .user243, .user244, .user245, .user246, .user247,
   .user248, .user249, .user250, .user251, .user252, .user253, .user254, .code255]

/-- The action-code map of R106: entry c is the frame instruction with action code c. -/
def frameTable : List Instr :=
  frameRows0 ++ (frameRows32 ++ (frameRows64 ++ (frameRows96 ++
    (frameRows128 ++ (frameRows160 ++ (frameRows192 ++ frameRows224))))))

/-- The frame instruction with an action code: selection is "by actionCode only" (R106, spec/opcode_table.json). -/
def decodeCode (c : Byte) : Instr := frameTable.getD c.toNat .code255

/-- The frame instruction a header selects. -/
def decodeHeader (h : Header) : Instr := decodeCode h.code

/-- The header bytes other than the action code: the operands a frame's word carries beside its instruction (R100). A
PCMD word carries none (R111 "Operands are not in the command word"). -/
structure HeaderFields where
  len : Byte
  sender : Byte
  target : Byte
deriving DecidableEq, Repr

/-- The operands of a command word: none, written as zeros. -/
def HeaderFields.zero : HeaderFields := ⟨0, 0, 0⟩

/-- The header of a frame with the given action code and operands. -/
def HeaderFields.header (f : HeaderFields) (c : Byte) : Header := ⟨f.len, f.sender, f.target, c⟩

/-- The operands in a header. -/
def Header.fields (h : Header) : HeaderFields := ⟨h.len, h.sender, h.target⟩

/-- The instruction and the operands in a 32-bit word from the given source. -/
def decodeWord (src : Source) (w : Word) : Instr × HeaderFields :=
  match src with
  | .pcmd p => (decodeCommand p w, HeaderFields.zero)
  | .wire => (decodeHeader (Header.ofWord w), (Header.ofWord w).fields)

/-- The instruction and operands at the front of a byte sequence, and the bytes after them (for a frame: its body).
Total: every four bytes are an instruction of either source (R102, R113); only too few bytes and a port that does not
exist are rejected. -/
def decode (nport : Nat) (src : Source) : List Byte → Except Rejection ((Instr × HeaderFields) × List Byte)
  | b0 :: b1 :: b2 :: b3 :: rest =>
    match src with
    | .pcmd p => if p < nport then .ok (decodeWord (.pcmd p) (ofLanes b0 b1 b2 b3), rest) else .error (.noSuchPort p)
    | .wire => .ok (decodeWord .wire (ofLanes b0 b1 b2 b3), rest)
  | short => .error (.tooShort short.length)

/-! ## Encoding -/

/-- The action code of a frame instruction; none for a command. -/
def Instr.code? : Instr → Option Byte
  | .sendMsg _ => none
  | .sendBundle _ => none
  | .bind _ => none
  | .unbind _ => none
  | .isUsed _ => none
  | .badCommand _ _ => none
  | .reserved0 => some 0#8
  | .text => some 1#8
  | .bundleHeader => some 2#8
  | .mult => some 3#8
  | .reserved4 => some 4#8
  | .exit => some 5#8
  | .reserved6 => some 6#8
  | .reserved7 => some 7#8
  | .reserved8 => some 8#8
  | .reserved9 => some 9#8
  | .reserved10 => some 10#8
  | .reserved11 => some 11#8
  | .reserved12 => some 12#8
  | .reserved13 => some 13#8
  | .reserved14 => some 14#8
  | .reserved15 => some 15#8
  | .reserved16 => some 16#8
  | .reserved17 => some 17#8
  | .reserved18 => some 18#8
  | .reserved19 => some 19#8
  | .reserved20 => some 20#8
  | .reserved21 => some 21#8
  | .reserved22 => some 22#8
  | .reserved23 => some 23#8
  | .reserved24 => some 24#8
  | .reserved25 => some 25#8
  | .reserved26 => some 26#8
  | .reserved27 => some 27#8
  | .reserved28 => some 28#8
  | .reserved29 => some 29#8
  | .reserved30 => some 30#8
  | .reserved31 => some 31#8
  | .user32 => some 32#8
  | .user33 => some 33#8
  | .user34 => some 34#8
  | .user35 => some 35#8
  | .user36 => some 36#8
  | .user37 => some 37#8
  | .user38 => some 38#8
  | .user39 => some 39#8
  | .user40 => some 40#8
  | .user41 => some 41#8
  | .user42 => some 42#8
  | .user43 => some 43#8
  | .user44 => some 44#8
  | .user45 => some 45#8
  | .user46 => some 46#8
  | .user47 => some 47#8
  | .user48 => some 48#8
  | .user49 => some 49#8
  | .user50 => some 50#8
  | .user51 => some 51#8
  | .user52 => some 52#8
  | .user53 => some 53#8
  | .user54 => some 54#8
  | .user55 => some 55#8
  | .user56 => some 56#8
  | .user57 => some 57#8
  | .user58 => some 58#8
  | .user59 => some 59#8
  | .user60 => some 60#8
  | .user61 => some 61#8
  | .user62 => some 62#8
  | .user63 => some 63#8
  | .user64 => some 64#8
  | .user65 => some 65#8
  | .user66 => some 66#8
  | .user67 => some 67#8
  | .user68 => some 68#8
  | .user69 => some 69#8
  | .user70 => some 70#8
  | .user71 => some 71#8
  | .user72 => some 72#8
  | .user73 => some 73#8
  | .user74 => some 74#8
  | .user75 => some 75#8
  | .user76 => some 76#8
  | .user77 => some 77#8
  | .user78 => some 78#8
  | .user79 => some 79#8
  | .user80 => some 80#8
  | .user81 => some 81#8
  | .user82 => some 82#8
  | .user83 => some 83#8
  | .user84 => some 84#8
  | .user85 => some 85#8
  | .user86 => some 86#8
  | .user87 => some 87#8
  | .user88 => some 88#8
  | .user89 => some 89#8
  | .user90 => some 90#8
  | .user91 => some 91#8
  | .user92 => some 92#8
  | .user93 => some 93#8
  | .user94 => some 94#8
  | .user95 => some 95#8
  | .user96 => some 96#8
  | .user97 => some 97#8
  | .user98 => some 98#8
  | .user99 => some 99#8
  | .user100 => some 100#8
  | .user101 => some 101#8
  | .user102 => some 102#8
  | .user103 => some 103#8
  | .user104 => some 104#8
  | .user105 => some 105#8
  | .user106 => some 106#8
  | .user107 => some 107#8
  | .user108 => some 108#8
  | .user109 => some 109#8
  | .user110 => some 110#8
  | .user111 => some 111#8
  | .user112 => some 112#8
  | .user113 => some 113#8
  | .user114 => some 114#8
  | .user115 => some 115#8
  | .user116 => some 116#8
  | .user117 => some 117#8
  | .user118 => some 118#8
  | .user119 => some 119#8
  | .user120 => some 120#8
  | .user121 => some 121#8
  | .user122 => some 122#8
  | .user123 => some 123#8
  | .user124 => some 124#8
  | .user125 => some 125#8
  | .user126 => some 126#8
  | .user127 => some 127#8
  | .user128 => some 128#8
  | .user129 => some 129#8
  | .user130 => some 130#8
  | .user131 => some 131#8
  | .user132 => some 132#8
  | .user133 => some 133#8
  | .user134 => some 134#8
  | .user135 => some 135#8
  | .user136 => some 136#8
  | .user137 => some 137#8
  | .user138 => some 138#8
  | .user139 => some 139#8
  | .user140 => some 140#8
  | .user141 => some 141#8
  | .user142 => some 142#8
  | .user143 => some 143#8
  | .user144 => some 144#8
  | .user145 => some 145#8
  | .user146 => some 146#8
  | .user147 => some 147#8
  | .user148 => some 148#8
  | .user149 => some 149#8
  | .user150 => some 150#8
  | .user151 => some 151#8
  | .user152 => some 152#8
  | .user153 => some 153#8
  | .user154 => some 154#8
  | .user155 => some 155#8
  | .user156 => some 156#8
  | .user157 => some 157#8
  | .user158 => some 158#8
  | .user159 => some 159#8
  | .user160 => some 160#8
  | .user161 => some 161#8
  | .user162 => some 162#8
  | .user163 => some 163#8
  | .user164 => some 164#8
  | .user165 => some 165#8
  | .user166 => some 166#8
  | .user167 => some 167#8
  | .user168 => some 168#8
  | .user169 => some 169#8
  | .user170 => some 170#8
  | .user171 => some 171#8
  | .user172 => some 172#8
  | .user173 => some 173#8
  | .user174 => some 174#8
  | .user175 => some 175#8
  | .user176 => some 176#8
  | .user177 => some 177#8
  | .user178 => some 178#8
  | .user179 => some 179#8
  | .user180 => some 180#8
  | .user181 => some 181#8
  | .user182 => some 182#8
  | .user183 => some 183#8
  | .user184 => some 184#8
  | .user185 => some 185#8
  | .user186 => some 186#8
  | .user187 => some 187#8
  | .user188 => some 188#8
  | .user189 => some 189#8
  | .user190 => some 190#8
  | .user191 => some 191#8
  | .user192 => some 192#8
  | .user193 => some 193#8
  | .user194 => some 194#8
  | .user195 => some 195#8
  | .user196 => some 196#8
  | .user197 => some 197#8
  | .user198 => some 198#8
  | .user199 => some 199#8
  | .user200 => some 200#8
  | .user201 => some 201#8
  | .user202 => some 202#8
  | .user203 => some 203#8
  | .user204 => some 204#8
  | .user205 => some 205#8
  | .user206 => some 206#8
  | .user207 => some 207#8
  | .user208 => some 208#8
  | .user209 => some 209#8
  | .user210 => some 210#8
  | .user211 => some 211#8
  | .user212 => some 212#8
  | .user213 => some 213#8
  | .user214 => some 214#8
  | .user215 => some 215#8
  | .user216 => some 216#8
  | .user217 => some 217#8
  | .user218 => some 218#8
  | .user219 => some 219#8
  | .user220 => some 220#8
  | .user221 => some 221#8
  | .user222 => some 222#8
  | .user223 => some 223#8
  | .user224 => some 224#8
  | .user225 => some 225#8
  | .user226 => some 226#8
  | .user227 => some 227#8
  | .user228 => some 228#8
  | .user229 => some 229#8
  | .user230 => some 230#8
  | .user231 => some 231#8
  | .user232 => some 232#8
  | .user233 => some 233#8
  | .user234 => some 234#8
  | .user235 => some 235#8
  | .user236 => some 236#8
  | .user237 => some 237#8
  | .user238 => some 238#8
  | .user239 => some 239#8
  | .user240 => some 240#8
  | .user241 => some 241#8
  | .user242 => some 242#8
  | .user243 => some 243#8
  | .user244 => some 244#8
  | .user245 => some 245#8
  | .user246 => some 246#8
  | .user247 => some 247#8
  | .user248 => some 248#8
  | .user249 => some 249#8
  | .user250 => some 250#8
  | .user251 => some 251#8
  | .user252 => some 252#8
  | .user253 => some 253#8
  | .user254 => some 254#8
  | .code255 => some 255#8

/-- The source an instruction is read from: its port's PCMD, or the wire. -/
def Instr.source : Instr → Source
  | .sendMsg p => .pcmd p
  | .sendBundle p => .pcmd p
  | .bind p => .pcmd p
  | .unbind p => .pcmd p
  | .isUsed p => .pcmd p
  | .badCommand p _ => .pcmd p
  | _ => .wire

/-- The word of an instruction: its PCMD word (R111, R112), or its header with wire byte k in lane k (R100). -/
def Instr.encode (i : Instr) (f : HeaderFields) : Word :=
  match i with
  | .sendMsg _ => 0x01
  | .sendBundle _ => 0x02
  | .bind _ => 0x03
  | .unbind _ => 0x04
  | .isUsed _ => 0x05
  | .badCommand _ w => w
  | frame => (f.header (frame.code?.getD 0)).word

/-- The bytes of an instruction, lowest lane first. -/
def Instr.bytes (i : Instr) (f : HeaderFields) : List Byte := lanes (i.encode f)

/-- The operands an encoding of the instruction can carry: any for a frame (R102), none for a command (R111). -/
def Instr.carries (i : Instr) (f : HeaderFields) : Bool := i.source == .wire || f == HeaderFields.zero

/-! ## The opcode table's words -/

/-- The source of a word of spec/opcode_table.json. The table numbers PCMD words and headers alike, so the choice is
the model's (DESIGN CHOICE, log entry 5), in the table's own priority: the five exact command words first, then the
header rows, which cover every other 32-bit word; a row with fewer than 32 bits is BAD_COMMAND's, a PCMD word. -/
def tableSource (nbits : Nat) (w : Word) : Source :=
  if nbits < 32 || legalCommandWord w then .pcmd 0 else .wire

/-- The instruction the decoder reads from a row's bits, numbered as spec/opcode_table.json numbers them. -/
def decodeTableWord (nbits w : Nat) : Option Instr :=
  if nbits ≤ 32 ∧ w < 2 ^ nbits then
    match decode 1 (tableSource nbits (BitVec.ofNat 32 w)) (lanes (BitVec.ofNat 32 w)) with
    | .ok ((i, _), _) => some i
    | .error _ => none
  else none

end Sys2Proof
end

