-- ==== Sys2Proof/Machine/State.lean ====
section
/-! DEFINITION. The state of LMPF as plain data: everything spec 10_state.md gives the block, the synthesis parameters,
and the model's own environment record; the reasons a step can stop; and the state right after reset. -/

namespace Sys2Proof.Machine

/-! ## Names of the spec -/

/-- RX engine states `rs` (10_state.md R40). -/
inductive RxState where
  /-- reads a top-level header -/
  | hdr
  /-- reads a top-level body -/
  | body
  /-- reads a fragment's header -/
  | fhdr
  /-- reads a fragment's body -/
  | fbody
  /-- waits for DISP_ACK -/
  | dwait
  /-- the end of the read task -/
  | dead
deriving DecidableEq, Repr

/-- TX engine states `ts` (10_state.md R44); `idle` means the lock is free. -/
inductive TxState where
  | idle
  | send
  | pace
deriving DecidableEq, Repr

/-- Port states `pst[p]` (10_state.md R43). -/
inductive PortState where
  | idle
  | waitlock
  | active
deriving DecidableEq, Repr

/-- A slot table entry (10_state.md R42). -/
inductive Slot where
  | placeholder
  | text
  | mult
  | exit
  /-- a user binding to handler id `h` -/
  | ext (h : Byte)
deriving DecidableEq, Repr

/-- The kinds of slot DISP_INFO.KIND names (30_encoding.md R115). -/
inductive SlotKind where
  | placeholder
  | text
  | mult
  | exit
  | ext
deriving DecidableEq, Repr

/-- Command error codes, PSTATUS.ERR (30_encoding.md R116). -/
inductive ErrCode where
  | ok
  /-- never produced (60_exceptions.md R340 row 1) -/
  | valueNotInteger
  | valueOutOfByteRange
  | oversizedMessage
  | slotRange
  | notInvocable
  | slotAlreadyUsed
  | emptySlot
  | txFault
  | halted
  | badCommand
deriving DecidableEq, Repr

/-- LAST_FAIL.CAUSE (10_state.md R33, 30_encoding.md R117). -/
inductive Cause where
  | none
  /-- a handler reported failure -/
  | handler
  /-- the MULT literal was rejected -/
  | multLiteral
  /-- the action code has no slot -/
  | codeRange
deriving DecidableEq, Repr

/-- RXF_KIND.KIND (10_state.md R35, 30_encoding.md R117). -/
inductive FrameKind where
  | none
  | message
  | broken
  | bundle
deriving DecidableEq, Repr

/-- The kind of a send (10_state.md R43). -/
inductive SendKind where
  | msg
  | bundle
deriving DecidableEq, Repr

/-! ## Buffers -/

/-- The contents of RXBUF or of one TXBUF (20_memory.md R70): the bytes written since reset, by offset, in strictly
rising order of offset. An unlisted offset holds no written byte; what it reads as is a free value (log entry 3). -/
abbrev Memory := List Host.Cell

/-! ## Registers -/

/-- TMULT (10_state.md R28). -/
structure TMult where
  mult : BitVec 16
  inf : Bool
deriving DecidableEq, Repr

/-- DISP_INFO (10_state.md R31). -/
structure DispInfo where
  pend : Bool
  kind : SlotKind
  hid : Byte
  code : Byte
deriving DecidableEq, Repr

/-- LAST_FAIL (10_state.md R33). -/
structure LastFail where
  code : Byte
  cause : Cause
  hid : Byte
deriving DecidableEq, Repr

/-- The frame view: RXF_HDR, RXF_CODE, RXF_KIND, RXF_BODYLEN, RXF_RCVLEN, RXF_NFRAG (10_state.md R34-R36). -/
structure FrameView where
  hdr : Header
  code : Byte
  kind : FrameKind
  anyBroken : Bool
  mismatch : Bool
  bodylen : BitVec 17
  rcvlen : BitVec 17
  nfrag : BitVec 8
deriving DecidableEq, Repr

/-- The event counters (10_state.md R37), 32 bits, wrapping. -/
structure Counters where
  rxframe : Word
  rxdrop : Word
  broken : Word
  hfail : Word
  badbundle : Word
deriving DecidableEq, Repr

/-- A send context `sc[p]` (10_state.md R43). -/
structure SendCtx where
  kind : SendKind
  len : Nat
  sender : Byte
  target : Byte
  code : Byte
deriving DecidableEq, Repr

/-- Everything of one host port (10_state.md R38, R39, R43; TXBUF[p] 20_memory.md R72). -/
structure Port where
  pst : PortState
  sc : SendCtx
  done : Bool
  cmddrop : Bool
  wdrop : Bool
  err : ErrCode
  result : Word
  parg0 : Word
  parg1 : Word
  txLen : Word
  txSender : Word
  txTarget : Word
  txCode : Word
  txbuf : Memory
deriving DecidableEq, Repr

/-! ## Engines -/

/-- RX engine state (10_state.md R40 and, from `top` on, the bundle assembly of R41). -/
structure RxEngine where
  rs : RxState
  hcnt : Nat
  hb0 : Byte
  hb1 : Byte
  hb2 : Byte
  cur : Header
  bcnt : Nat
  e : Nat
  /-- the body timeout in cycles, `none` for INF -/
  tmo : Option Nat
  top : Header
  nfrag : Nat
  fidx : Nat
  boff : Nat
  rsum : Nat
  abrk : Bool
  fcode : Byte
  mism : Bool
deriving DecidableEq, Repr

/-- TX engine state (10_state.md R44). -/
structure TxEngine where
  ts : TxState
  gp : Nat
  rr : Nat
  total : Nat
  pos : Nat
  csize : Nat
  cpos : Nat
  pr : Nat
deriving DecidableEq, Repr

/-! ## The model's own record of the environment -/

/-- The output signals of one cycle (10_state.md R21). A signal that means nothing in a cycle is `none` there: `tx_data`
without `tx_valid`, `bus_rdata` without a read, `bus_resp` without a transaction (log entry 12). -/
structure Outputs where
  rxReady : Bool
  /-- `tx_valid` with `tx_data` -/
  tx : Option Byte
  busRdata : Option Word
  /-- `true` is ERR -/
  busResp : Option Bool
  dispPend : Bool
  halted : Bool
  rxDead : Bool
deriving DecidableEq, Repr

/-- The MODEL's own fields, no state of the spec (log entries 1, 3, 13): the inputs of the coming cycles, how many
steps were taken, how many of them were reset cycles, and what the last one drove. -/
structure Env where
  inputs : List Input
  cycle : Nat
  epoch : Nat
  out : Outputs
deriving DecidableEq, Repr

/-! ## State -/

/-- The state of LMPF. -/
structure State where
  /-- the synthesis parameters (00_scope.md R7), constant; PARAM and CLKHZ read them (10_state.md R24, R25) -/
  params : Params
  /-- GSTATUS.HALTED (10_state.md R26) -/
  halted : Bool
  /-- GSTATUS.CFGERR, sticky -/
  cfgerr : Bool
  /-- GSTATUS.ACKDROP, sticky -/
  ackdrop : Bool
  /-- DEV_ADDR.ADDR (R27) -/
  devAddr : Byte
  tmult : TMult
  /-- BPS.RATE (R29) -/
  bps : Word
  /-- CHUNK.SIZE (R30) -/
  chunk : BitVec 16
  disp : DispInfo
  lastFail : LastFail
  view : FrameView
  cnt : Counters
  /-- SLOT[0..254] (R42) -/
  slots : List Slot
  rx : RxEngine
  rxbuf : Memory
  tx : TxEngine
  /-- the ports p < NPORT -/
  ports : List Port
  env : Env
deriving DecidableEq, Repr

/-! ## Why a step stops -/

/-- Faults. None is the spec's (60_exceptions.md R352 "LMPF has no trap"), and no state reached from reset raises one:
each marks an access to something the spec says does not exist. -/
inductive Fault where
  /-- The RX engine would write RXBUF past offset 65024 (20_memory.md R70). Raised by the body cycle and by the
  padding of a broken frame. Safe: no reachable state raises it, and the block has no such byte (log entry 8). -/
  | rxbufRange (offset : Nat)
  /-- The TX engine is to offer byte `pos` of a stream that ends before it (10_state.md R44 "natural 0..total"). Raised
  by the SEND cycle. Safe: no reachable state raises it (log entry 9). -/
  | txStreamEnd (pos : Nat)
  /-- A command for a port that does not exist (20_memory.md R71). Raised by every command. Safe: the bus decodes no
  PCMD of such a port, so a step from a state with NPORT ports never raises it (log entry 10). -/
  | noSuchPort (p : Nat)
deriving DecidableEq, Repr

/-- Refusals. -/
inductive Refusal where
  /-- An instruction without a meaning. Raised by exec's arm alone; safe. No arm raises it now. -/
  | notModelled (mnemonic : String)
deriving DecidableEq, Repr

/-- What a meaning or a step answers. -/
abbrev Result := Host.Outcome State Fault Refusal

/-! ## Reset (10_state.md R49) -/

/-- A header of zeros. -/
def zeroHeader : Header := ⟨0, 0, 0, 0⟩

/-- SLOT[c] at reset (10_state.md R42). -/
def resetSlot (c : Nat) : Slot :=
  if c = 1 then .text else if c = 3 then .mult else if c = 5 then .exit else .placeholder

/-- A port at reset; TXBUF is not reset, so no byte of it is known (R49). -/
def resetPort : Port :=
  { pst := .idle, sc := ⟨.msg, 0, 0, 0, 0⟩, done := false, cmddrop := false, wdrop := false, err := .ok, result := 0,
    parg0 := 0, parg1 := 0, txLen := 0, txSender := 0, txTarget := 0, txCode := 0, txbuf := [] }

/-- The RX engine at reset. `hb[0..2]` has no reset value in the spec, "never read before written": zero, a DESIGN
CHOICE (log entry 4). -/
def resetRx : RxEngine :=
  { rs := .hdr, hcnt := 0, hb0 := 0, hb1 := 0, hb2 := 0, cur := zeroHeader, bcnt := 0, e := 0, tmo := some 0,
    top := zeroHeader, nfrag := 0, fidx := 0, boff := 0, rsum := 0, abrk := false, fcode := 0, mism := false }

/-- The TX engine at reset. -/
def resetTx (nport : Nat) : TxEngine :=
  { ts := .idle, gp := 0, rr := nport - 1, total := 0, pos := 0, csize := 512, cpos := 0, pr := 0 }

/-- No signal driven. -/
def quietOutputs : Outputs := ⟨false, none, none, none, false, false, false⟩

/-- The reset state of R49 for an instance with parameters `P`, beside a given environment record. -/
def State.resetWith (P : Params) (env : Env) : State :=
  { params := P, halted := false, cfgerr := false, ackdrop := false, devAddr := 255, tmult := ⟨0x0180, false⟩,
    bps := 300, chunk := 512, disp := ⟨false, .placeholder, 0, 0⟩, lastFail := ⟨0, .none, 0⟩,
    view := ⟨zeroHeader, 0, .none, false, false, 0, 0, 0⟩, cnt := ⟨0, 0, 0, 0, 0⟩,
    slots := (List.range 255).map resetSlot, rx := resetRx, rxbuf := [], tx := resetTx P.nport,
    ports := List.replicate P.nport resetPort, env := env }

/-- The machine right after reset, as R49 says, for the default parameters (log entry 2) and with the model's own fields
at the start of a run: no input scheduled, no step taken (DESIGN CHOICE, log entry 13). -/
def State.reset : State := State.resetWith Params.default ⟨[], 0, 0, quietOutputs⟩

end Sys2Proof.Machine
end

