-- ==== Sys2Proof/Machine/Codec.lean ====
section
/-! DEFINITION. The frame codec functions of spec 40_codec.md and the constants of 00_scope.md R8. They are pure: the
engine rule that calls one writes what it returns. -/

namespace Sys2Proof.Machine

/-! ## Constants (00_scope.md R8) -/

/-- MAX_BODY: the longest body of one frame. -/
abbrev maxBody : Nat := 255

/-- MAX_PAYLOAD: the longest payload of a bundle, and the size of each buffer (20_memory.md R70). -/
abbrev maxPayload : Nat := 65025

/-- NSLOT: the slots are 0 .. 254. -/
abbrev nslot : Nat := 255

/-- USER_LO: the first bindable action code. -/
abbrev userLo : Nat := 32

/-- USER_HI: the last bindable action code. -/
abbrev userHi : Nat := 254

/-- CODE_BUNDLE: the action code of a bundle's header message. -/
abbrev codeBundle : Byte := 2

/-- BROADCAST: the target address every endpoint accepts. -/
abbrev broadcast : Byte := 0

/-- Ceiling division (00_scope.md R10). -/
def cdiv (a b : Nat) : Nat := (a + b - 1) / b

/-! ## Header (R140-R142) -/

/-- HeaderEncode (R140). -/
def headerEncode (h : Header) : List Byte := [h.len, h.sender, h.target, h.code]

/-- HeaderDecode (R141), of the four bytes of a header in wire order. -/
def headerDecode (b0 b1 b2 b3 : Byte) : Header := ⟨b0, b1, b2, b3⟩

/-- HeaderCheck (R142): the construction checks on 32-bit operands, the byte range before the size. -/
def headerCheck (len s t c maxlen : Nat) : ErrCode :=
  if s > 255 ∨ t > 255 ∨ c > 255 then .valueOutOfByteRange
  else if len > maxlen then .oversizedMessage
  else .ok

/-! ## Message (R143-R145) -/

/-- MessageEncode (R143). -/
def messageEncode (s t c : Byte) (body : List Byte) : List Byte :=
  headerEncode ⟨BitVec.ofNat 8 body.length, s, t, c⟩ ++ body

/-- Pad (R145) with the filler byte `fill`. -/
def pad (fill : Byte) (r : List Byte) (len : Nat) : List Byte := r ++ List.replicate (len - r.length) fill

/-- Classify (R144): the kind of a frame of declared length `len` of which `r` arrived, and its reported body. -/
def classifyBody (fill : Byte) (len : Nat) (r : List Byte) : FrameKind × List Byte :=
  if r.length < len then (.broken, pad fill r len) else (.message, r)

/-! ## Bundle (R146-R151) -/

/-- The fragment count of a payload of `len` bytes (R146). -/
def fragmentCount (len : Nat) : Nat := max 1 (cdiv len 255)

/-- The length of fragment `k` of a payload of `len` bytes (R146, 44_engine_tx.md R285). -/
def fragmentLen (len k : Nat) : Nat := min 255 (len - 255 * k)

/-- BundleSplit (R146): the fragments of a payload, in order. -/
def bundleSplit (payload : List Byte) : List (List Byte) :=
  (List.range (fragmentCount payload.length)).map fun i => (payload.drop (255 * i)).take 255

/-- The ASCII digit byte of `d` (30_encoding.md R104). -/
def digit (d : Nat) : Byte := BitVec.ofNat 8 (0x30 + d)

/-- FormatCount (R148). -/
def formatCount (n : Nat) : List Byte :=
  if n < 10 then [digit n]
  else if n < 100 then [digit (n / 10), digit (n % 10)]
  else [digit (n / 100), digit (n / 10 % 10), digit (n % 10)]

/-- BundleEncode (R149). -/
def bundleEncode (s t c : Byte) (payload : List Byte) : List Byte :=
  messageEncode s t codeBundle (formatCount (fragmentCount payload.length)) ++
    (bundleSplit payload).flatMap (messageEncode s t c)

/-- Is the byte an ASCII digit, 0x30 .. 0x39? -/
def isDigit (b : Byte) : Bool := 0x30 ≤ b.toNat && b.toNat ≤ 0x39

/-- The value of a string of ASCII digits, most significant first. -/
def decimal (ds : List Byte) : Nat := ds.foldl (fun v b => 10 * v + (b.toNat - 0x30)) 0

/-- ParseCount (R150); `none` is INVALID. -/
def parseCount (body : List Byte) (broken : Bool) : Option Nat :=
  if broken || body.isEmpty || !body.all isDigit then none
  else if decimal body < 1 ∨ decimal body > 255 then none
  else some (decimal body)

/-- A classified fragment: its header, its reported body and how many bytes of it arrived (R151). -/
structure Fragment where
  hdr : Header
  body : List Byte
  received : Nat
deriving DecidableEq, Repr

/-- A reassembled bundle (R151). -/
structure Bundle where
  body : List Byte
  bodylen : Nat
  rcvlen : Nat
  hdr : Header
  code : Byte
  anyBroken : Bool
  mismatch : Bool
deriving DecidableEq, Repr

/-- BundleFromParts (R151), of the header message's header and the fragments, the first apart. -/
def bundleFromParts (hm : Header) (first : Fragment) (others : List Fragment) : Bundle :=
  let all := first :: others
  { body := all.flatMap Fragment.body
    bodylen := (all.map fun f => f.hdr.len.toNat).sum
    rcvlen := (all.map Fragment.received).sum
    hdr := hm
    code := first.hdr.code
    anyBroken := all.any fun f => f.received < f.hdr.len.toNat
    mismatch := all.any fun f => f.hdr.code != first.hdr.code }

/-! ## Multiplier literal (R152) -/

/-- What ParseMult answers. -/
inductive MultParse where
  /-- a numeric literal, with its UQ8.8 value -/
  | value (q : BitVec 16)
  /-- the literal "None" -/
  | inf
  | reject
deriving DecidableEq, Repr

/-- The UQ8.8 value of a literal with integer digits `ip` and fraction digits `fr` (30_encoding.md R110), rejected where
the integer part is above 255 (R109). -/
def multValue (ip fr : List Byte) : MultParse :=
  if decimal ip > 255 then .reject
  else .value (BitVec.ofNat 16 (decimal ip * 256 + decimal fr * 256 / 10 ^ fr.length))

/-- ParseMult (R152, grammar 30_encoding.md R109): "None", or D+, D+ "." D*, "." D+. -/
def parseMult (body : List Byte) : MultParse :=
  if body = [0x4E, 0x6F, 0x6E, 0x65] then .inf
  else
    let ip := body.takeWhile isDigit
    match body.dropWhile isDigit with
    | [] => if ip.isEmpty then .reject else multValue ip []
    | point :: fr =>
      if point = 0x2E ∧ fr.all isDigit = true ∧ ¬ (ip = [] ∧ fr = []) then multValue ip fr else .reject

/-! ## Timeout and pacing (R170, R171) -/

/-- TimeoutCycles (R170); `none` is INF. -/
def timeoutCycles (clkHz len mult : Nat) (inf : Bool) (bps : Nat) : Option Nat :=
  if inf then none else some (cdiv (len * 8 * mult * clkHz) (bps * 256))

/-- PaceCycles (R171). -/
def paceCycles (clkHz n bps : Nat) : Nat := cdiv (8 * n * clkHz) bps

/-! ## The byte stream of a send (44_engine_tx.md R284, R285) -/

/-- The length of Stream(p). -/
def streamLen (sc : SendCtx) : Nat :=
  match sc.kind with
  | .msg => 4 + sc.len
  | .bundle => 4 + (formatCount (fragmentCount sc.len)).length + 4 * fragmentCount sc.len + sc.len

/-- Byte `q` of the header [len, S, T, C] of a frame that a send builds. -/
def streamHeaderByte (len : Nat) (s t c : Byte) (q : Nat) : Byte :=
  (headerEncode ⟨BitVec.ofNat 8 len, s, t, c⟩).getD q 0

/-- Stream(p)[i], for i below its length: R284 for a message, R285 for a bundle. `buf` reads TXBUF[p]. -/
def streamByte (sc : SendCtx) (buf : Nat → Byte) (i : Nat) : Byte :=
  match sc.kind with
  | .msg => if i < 4 then streamHeaderByte sc.len sc.sender sc.target sc.code i else buf (i - 4)
  | .bundle =>
    let d := formatCount (fragmentCount sc.len)
    let h := 4 + d.length
    if i < 4 then streamHeaderByte d.length sc.sender sc.target codeBundle i
    else if i < h then d.getD (i - 4) 0
    else
      let k := (i - h) / 259
      let q := (i - h) % 259
      if q < 4 then streamHeaderByte (fragmentLen sc.len k) sc.sender sc.target sc.code q
      else buf (255 * k + q - 4)

end Sys2Proof.Machine
end

