-- ==== Sys2Proof/Machine/Ops.lean ====
section
/-! DEFINITION. The named operations over State: buffers, ports, command completion, the fault report, and the analogues
of taking and leaving an exception: dispatch to a waiting handler and its acknowledgement (spec 60_exceptions.md R352,
R353), and the EXIT abort. -/

namespace Sys2Proof.Machine

/-- The second operation after the first; a stop of the first stops both. -/
def andThen (r : Result) (f : State → Result) : Result :=
  match r with
  | .next s => f s
  | .fault x => .fault x
  | .refused x => .refused x

/-! ## Buffers (20_memory.md R70, R72) -/

/-- The form every buffer keeps: offsets strictly rising, and none past 65024. An unlisted byte reads as no written
value, so no entry can equal it. -/
abbrev Memory.wf (m : Memory) : Prop :=
  m.Pairwise (fun x y => x.1 < y.1) ∧ ∀ c ∈ m, c.1 < maxPayload

/-- The byte written at an offset since reset, if any. -/
def memRead : Memory → Nat → Option Byte
  | [], _ => none
  | (k, v) :: m, a => if k = a then some v else memRead m a

/-- The buffer after a byte is written. -/
def memWrite : Memory → Nat → Byte → Memory
  | [], a, b => [(a, b)]
  | (k, v) :: m, a, b =>
    if a < k then (a, b) :: (k, v) :: m
    else if a = k then (a, b) :: m
    else (k, v) :: memWrite m a b

/-- The buffer after `n` copies of a byte are written from an offset on. -/
def memFill (m : Memory) (a : Nat) : Nat → Byte → Memory
  | 0, _ => m
  | n + 1, b => memFill (memWrite m a b) (a + 1) n b

/-- RXBUF[o]: the byte written there since reset, else a free value (R72, log entry 3). That a byte at or beyond
RXF_BODYLEN, or of a frame that did not wait, reads as exactly the byte last written is the model's choice: DESIGN CHOICE,
log entry 18 (93_implementation_defined.md S4 "any value (stale or next-frame bytes)", 70_reset_and_hazards.md R376). -/
def State.rxByte (s : State) (o : Nat) : Byte :=
  (memRead s.rxbuf o).getD (Config.unwrittenByte s.env.epoch 0 o)

/-- MemRead(RXBUF, 0, n) (00_scope.md R11). -/
def State.rxBytes (s : State) (n : Nat) : List Byte := (List.range n).map s.rxByte

/-! ## Ports -/

/-- Port `p` changed by `f`; nothing where it does not exist. -/
def State.updPort (s : State) (p : Nat) (f : Port → Port) : State := { s with ports := s.ports.modify p f }

/-- pst[p]; a port that does not exist is idle. -/
def State.pst (s : State) (p : Nat) : PortState := ((s.ports[p]?).map Port.pst).getD .idle

/-- TXBUF[p][o] of a given port's contents: the byte written there since reset, else a free value (R72, log
entry 3). -/
def Port.txByte (P : Port) (epoch p o : Nat) : Byte :=
  (memRead P.txbuf o).getD (Config.unwrittenByte epoch (p + 1) o)

/-- `complete(e, r)` on a port's registers (45_host_interface.md R313). -/
def Port.complete (P : Port) (e : ErrCode) (r : Nat) : Port :=
  { P with done := true, err := e, result := BitVec.ofNat 32 r }

/-- The end of a send: the port goes idle and its command completes (41_writer.md R185, R186). -/
def Port.sendEnds (P : Port) (e : ErrCode) (r : Nat) : Port :=
  { P.complete e r with pst := .idle }

/-! ## The slot table -/

/-- SLOT[c] for c ≤ 254; `none` where no slot exists (10_state.md R42). -/
def State.slot? (s : State) (c : Nat) : Option Slot := if c < nslot then s.slots[c]? else none

/-- SLOT[c] <- x. -/
def State.setSlot (s : State) (c : Nat) (x : Slot) : State := { s with slots := s.slots.set c x }

/-- The handler id of a slot, zero but for EXT(h) (30_encoding.md R115). -/
def Slot.hid : Slot → Byte
  | .ext h => h
  | _ => 0

/-- The kind of a slot (30_encoding.md R115). -/
def Slot.kind : Slot → SlotKind
  | .placeholder => .placeholder
  | .text => .text
  | .mult => .mult
  | .exit => .exit
  | .ext _ => .ext

/-! ## Faults of dispatch, waiting handlers, EXIT -/

/-- `report(cause, code, hid)` (42_dispatch.md R225). -/
def State.report (s : State) (cause : Cause) (code hid : Byte) : State :=
  { s with lastFail := ⟨code, cause, hid⟩, cnt := { s.cnt with hfail := s.cnt.hfail + 1 } }

/-- `rs <- x`. -/
def State.setRs (s : State) (x : RxState) : State := { s with rx := { s.rx with rs := x } }

/-- Dispatch to a waiting handler, the trap-entry analogue (60_exceptions.md R352; 42_dispatch.md R207, R210): DISP_INFO
names the handler and the code, and the RX engine waits. The frame it "saves" is the frame view and RXBUF. -/
def State.waitHandler (s : State) (kind : SlotKind) (hid code : Byte) : State :=
  { s with disp := ⟨true, kind, hid, code⟩ }.setRs .dwait

/-- DISP_ACK with a dispatch pending, the trap-return analogue (60_exceptions.md R353; 42_dispatch.md R211): a failing EXT
handler is reported, DISP_INFO is cleared and the RX engine reads headers again. `fail` is wdata[0]. -/
def State.ackDispatch (s : State) (fail : Bool) : State :=
  let s' := if s.disp.kind = .ext ∧ fail = true then s.report .handler s.disp.code s.disp.hid else s
  { s' with disp := ⟨false, .placeholder, 0, 0⟩ }.setRs .hdr

/-- What the EXIT abort writes into port `p`'s registers (44_engine_tx.md R288): a busy port goes idle with ERR = HALTED
and the count of bytes transferred. -/
def abortPort (tx : TxEngine) (p : Nat) (P : Port) : Port :=
  if P.pst = .idle then P
  else P.sendEnds .halted (if p = tx.gp ∧ tx.ts ≠ .idle then tx.pos else 0)

/-- The EXIT abort (R288) and HALTED (42_dispatch.md R209). Applied to the state all other rules of the cycle leave, a
port is busy there iff it was busy before or its send was accepted in the cycle and R185 or R186 did not end it, and
`pos` already counts a transfer of the cycle. -/
def State.exitAbort (s : State) : State :=
  { s with halted := true, ports := s.ports.mapIdx (abortPort s.tx), tx := { s.tx with ts := .idle } }

end Sys2Proof.Machine
end

