-- ==== Sys2Proof/Machine/Operands.lean ====
section
/-! DEFINITION. The operands of the commands: the port registers they read, compared as whole 32-bit values "with no
truncation and no sign" (spec 30_encoding.md R114), and the send context an accepted send captures (10_state.md R43). -/

namespace Sys2Proof.Machine

/-- PARG0 as the action code operand of BIND, UNBIND, ISUSED. -/
def Port.codeArg (P : Port) : Nat := P.parg0.toNat

/-- PARG1 as the handler id operand of BIND. -/
def Port.hidArg (P : Port) : Nat := P.parg1.toNat

/-- Is the code bindable, 32 .. 254 (R114)? -/
def userCode (c : Nat) : Bool := userLo ≤ c && c ≤ userHi

/-- Has the code a slot, 0 .. 254 (R114)? -/
def hasSlot (c : Nat) : Bool := c ≤ userHi

/-- Is the handler id invocable (42_dispatch.md R201 "Invocable means h < NHANDLER")? -/
def invocable (P : Params) (h : Nat) : Bool := h < P.nhandler

/-- HeaderCheck on a port's send operands (40_codec.md R142). -/
def Port.sendCheck (P : Port) (maxlen : Nat) : ErrCode :=
  headerCheck P.txLen.toNat P.txSender.toNat P.txTarget.toNat P.txCode.toNat maxlen

/-- The send context captured from a port's operands (10_state.md R43). -/
def Port.sendContext (P : Port) (kind : SendKind) : SendCtx :=
  ⟨kind, P.txLen.toNat, P.txSender.setWidth 8, P.txTarget.setWidth 8, P.txCode.setWidth 8⟩

end Sys2Proof.Machine
end

