-- ==== Sys2Proof/Machine/Commands.lean ====
section
/-! DEFINITION. The host commands: what each does in the cycle of its PCMD write (spec 45_host_interface.md R310-R313,
42_dispatch.md R201-R203, 44_engine_tx.md R280, R281). -/

namespace Sys2Proof.Machine

/-- A command of port `p` (R310): dropped with CMDDROP while the port is busy (R312), else `body`, given the port's
registers. -/
def onIdlePort (p : Nat) (s : State) (body : Port → State) : Result :=
  match s.ports[p]? with
  | none => .fault (.noSuchPort p)
  | some P => if P.pst = .idle then .next (body P) else .next (s.updPort p fun P => { P with cmddrop := true })

/-- `complete(e, r)` for port `p` (R313). -/
def State.complete (s : State) (p : Nat) (e : ErrCode) (r : Nat) : State := s.updPort p fun P => P.complete e r

/-- `fail(e)` (R313): the command completes with the error and does nothing else. -/
def State.failCommand (s : State) (p : Nat) (e : ErrCode) : State := s.complete p e 0

/-- A send command on an idle port (44_engine_tx.md R280): its checks, then either a failed completion or the capture of
the operands and the wait for the lock. -/
def issueSend (kind : SendKind) (maxlen p : Nat) (s : State) : Result :=
  onIdlePort p s fun P =>
    match P.sendCheck maxlen with
    | .ok => s.updPort p fun P =>
        { P with sc := P.sendContext kind, pst := .waitlock, done := false, err := .ok, result := 0 }
    | e => s.failCommand p e

/-- SEND_MSG (R280). -/
def execSendMsg (p : Nat) (s : State) : Result := issueSend .msg maxBody p s

/-- SEND_BUNDLE (R281). -/
def execSendBundle (p : Nat) (s : State) : Result := issueSend .bundle maxPayload p s

/-- BIND (42_dispatch.md R201). -/
def execBind (p : Nat) (s : State) : Result :=
  onIdlePort p s fun P =>
    if !userCode P.codeArg then s.failCommand p .slotRange
    else if !invocable s.params P.hidArg then s.failCommand p .notInvocable
    else if s.slot? P.codeArg ≠ some .placeholder then s.failCommand p .slotAlreadyUsed
    else (s.setSlot P.codeArg (.ext (BitVec.ofNat 8 P.hidArg))).complete p .ok 0

/-- UNBIND (42_dispatch.md R202). -/
def execUnbind (p : Nat) (s : State) : Result :=
  onIdlePort p s fun P =>
    if !userCode P.codeArg then s.failCommand p .slotRange
    else if s.slot? P.codeArg = some .placeholder then s.failCommand p .emptySlot
    else (s.setSlot P.codeArg .placeholder).complete p .ok 0

/-- ISUSED (42_dispatch.md R203). -/
def execIsUsed (p : Nat) (s : State) : Result :=
  onIdlePort p s fun P =>
    if !hasSlot P.codeArg then s.failCommand p .slotRange
    else s.complete p .ok (if s.slot? P.codeArg ≠ some .placeholder then 1 else 0)

/-- BAD_COMMAND (45_host_interface.md R311): the word beyond being illegal does not matter. -/
def execBadCommand (p : Nat) (_w : Word) (s : State) : Result :=
  onIdlePort p s fun _ => s.failCommand p .badCommand

end Sys2Proof.Machine
end

