-- ==== Sys2Proof/Machine/Frames.lean ====
section
/-! DEFINITION. The completion of a frame, shared by every frame instruction: classification and padding, the fragment
bookkeeping, the frame view, the address filter and the dispatch mux (spec 43_engine_rx.md R244-R253, 42_dispatch.md
R204-R210). All of it happens in the one cycle that ends the body read (D49).

A frame instruction's operands are in the RX engine: the header `cur` and the count `bcnt`; for a bundle, completed by
its last fragment (rs = FBODY), `top` and the assembly state. The instruction itself is the dispatch code. -/

namespace Sys2Proof.Machine

/-- A classified frame as it reaches the frame view (43_engine_rx.md R245, R250). -/
structure Frame where
  hdr : Header
  /-- the dispatch code -/
  code : Byte
  kind : FrameKind
  anyBroken : Bool
  mismatch : Bool
  bodylen : Nat
  rcvlen : Nat
  nfrag : Nat
deriving DecidableEq, Repr

/-! ## Classification (R244) -/

/-- The RXBUF offset of the current body (R243): `boff` for a fragment, else 0. -/
def bodyBase (s : State) : Nat := if s.rx.rs = .fbody then s.rx.boff else 0

/-- Is the current frame broken: fewer bytes than declared arrived (40_codec.md R144)? -/
def isBroken (s : State) : Bool := s.rx.bcnt < s.rx.cur.len.toNat

/-- R244: a broken frame's body is padded with FILL up to its declared length, in this one cycle, and counted. A
padding past the end of RXBUF, which no reachable state asks for, is a fault (log entry 8). -/
def classify (s : State) : Result :=
  if isBroken s = true then
    if bodyBase s + s.rx.cur.len.toNat > maxPayload then .fault (.rxbufRange (bodyBase s + s.rx.cur.len.toNat))
    else .next { s with
      rxbuf := memFill s.rxbuf (bodyBase s + s.rx.bcnt) (s.rx.cur.len.toNat - s.rx.bcnt) s.params.fill
      cnt := { s.cnt with broken := s.cnt.broken + 1 } }
  else .next s

/-! ## The frame -/

/-- The frame of a top-level header (R245). -/
def topFrame (code : Byte) (s : State) : Frame :=
  { hdr := { s.rx.cur with code := code }
    code := code
    kind := if isBroken s = true then .broken else .message
    anyBroken := isBroken s
    mismatch := false
    bodylen := s.rx.cur.len.toNat
    rcvlen := s.rx.bcnt
    nfrag := 0 }

/-- The frame of a bundle in the cycle of its last fragment (R250). -/
def bundleFrame (code : Byte) (s : State) : Frame :=
  { hdr := s.rx.top
    code := code
    kind := .bundle
    anyBroken := s.rx.abrk || isBroken s
    mismatch := s.rx.mism || (0 < s.rx.fidx && s.rx.cur.code != s.rx.fcode)
    bodylen := s.rx.boff + s.rx.cur.len.toNat
    rcvlen := s.rx.rsum + s.rx.bcnt
    nfrag := s.rx.nfrag }

/-- The dispatch code of a bundle: the first fragment's action code (R250). -/
def bundleCode (s : State) : Byte := if s.rx.fidx = 0 then s.rx.cur.code else s.rx.fcode

/-- The bookkeeping of a completed fragment (R249), written over `s` from the values `pre` holds. -/
def closeFragment (pre s : State) : State :=
  { s with rx := { s.rx with
      rsum := pre.rx.rsum + pre.rx.bcnt
      abrk := pre.rx.abrk || isBroken pre
      fcode := if pre.rx.fidx = 0 then pre.rx.cur.code else pre.rx.fcode
      mism := if pre.rx.fidx = 0 then pre.rx.mism else pre.rx.mism || pre.rx.cur.code != pre.rx.fcode
      boff := pre.rx.boff + pre.rx.cur.len.toNat
      fidx := pre.rx.fidx + 1 } }

/-! ## View, filter, dispatch -/

/-- Frame view update (R251). -/
def State.viewFrame (s : State) (F : Frame) : State :=
  { s with
    view := ⟨F.hdr, F.code, F.kind, F.anyBroken, F.mismatch, BitVec.ofNat 17 F.bodylen, BitVec.ofNat 17 F.rcvlen,
      BitVec.ofNat 8 F.nfrag⟩
    cnt := { s.cnt with rxframe := s.cnt.rxframe + 1 } }

/-- What the filter and the dispatch mux decide for a frame. -/
inductive Action where
  /-- the filter discards it (R252) -/
  | drop
  /-- its code has no slot (42_dispatch.md R204) -/
  | rangeFault
  /-- PLACEHOLDER (R206) -/
  | noop
  /-- TEXT or EXT(h): dispatch and wait (R207, R210) -/
  | wait (kind : SlotKind) (hid : Byte)
  /-- MULT, with a numeric literal (R208) -/
  | setMult (q : BitVec 16)
  /-- MULT, with the literal None (R208) -/
  | setInf
  /-- MULT, with no literal (R208) -/
  | rejectMult
  /-- EXIT (R209) -/
  | halt
deriving DecidableEq, Repr

/-- The address filter (43_engine_rx.md R252): the frame's target is the device address or broadcast. -/
def accepts (s : State) (F : Frame) : Bool := F.hdr.target == s.devAddr || F.hdr.target == broadcast

/-- What the handler in a slot does with a frame whose body is in RXBUF (42_dispatch.md R206-R210). -/
def slotAction (F : Frame) (s : State) : Slot → Action
  | .placeholder => .noop
  | .text => .wait .text 0
  | .mult =>
    match parseMult (s.rxBytes F.bodylen) with
    | .value q => .setMult q
    | .inf => .setInf
    | .reject => .rejectMult
  | .exit => .halt
  | .ext h => .wait .ext h

/-- What happens to a frame at the filter and the dispatch mux (43_engine_rx.md R252, 42_dispatch.md R204, R205). -/
def frameAction (F : Frame) (s : State) : Action :=
  if accepts s F = false then .drop
  else match s.slot? F.code.toNat with
    | none => .rangeFault
    | some x => slotAction F s x

/-- The effect of that decision (43_engine_rx.md R252, 42_dispatch.md R204-R210). EXIT leaves `rs` as it is (43 R253). -/
def Action.apply (code : Byte) (s : State) : Action → State
  | .drop => { s with cnt := { s.cnt with rxdrop := s.cnt.rxdrop + 1 } }.setRs .hdr
  | .rangeFault => (s.report .codeRange code 0).setRs .hdr
  | .noop => s.setRs .hdr
  | .wait kind hid => s.waitHandler kind hid code
  | .setMult q => { s with tmult := ⟨q, false⟩ }.setRs .hdr
  | .setInf => { s with tmult := ⟨s.tmult.mult, true⟩ }.setRs .hdr
  | .rejectMult => (s.report .multLiteral code 0).setRs .hdr
  | .halt => s.exitAbort

/-- R251, then R252 and R253, for a classified frame. -/
def deliver (F : Frame) (s : State) : State := (frameAction F s).apply F.code (s.viewFrame F)

/-- The completion of a frame with dispatch code `code`: a bundle where its last fragment completes (rs = FBODY), else
the top-level frame whose header is `cur`. -/
def completeFrame (code : Byte) (s : State) : Result :=
  andThen (classify s) fun s1 =>
    if s.rx.rs = .fbody then .next (deliver (bundleFrame code s) (closeFragment s s1))
    else .next (deliver (topFrame code s) s1)

/-- A top-level frame with action code 2 (R246, R247): a valid fragment count starts the bundle, an invalid one discards
the header message. -/
def startBundle (s : State) : Result :=
  andThen (classify s) fun s1 =>
    match parseCount (s1.rxBytes s.rx.cur.len.toNat) (isBroken s) with
    | none => .next ({ s1 with cnt := { s1.cnt with badbundle := s1.cnt.badbundle + 1 } }.setRs .hdr)
    | some n => .next { s1 with rx := { s1.rx with
        top := s.rx.cur, nfrag := n, fidx := 0, boff := 0, rsum := 0, abrk := false, mism := false, fcode := 0,
        rs := .fhdr } }

/-- A fragment that is not the last (R249): it is read, not filtered and not dispatched (R248). -/
def endFragment (s : State) : Result :=
  andThen (classify s) fun s1 => .next ((closeFragment s s1).setRs .fhdr)

end Sys2Proof.Machine
end

