-- ==== Sys2Proof/Machine/Internal.lean ====
section
/-! DEFINITION. The action codes with a meaning of their own: TEXT, BUNDLE_HEADER, MULT, EXIT (spec 30_encoding.md
R106). -/

namespace Sys2Proof.Machine

/-- TEXT (42_dispatch.md R207): a frame dispatched with code 1, whose slot always holds TEXT. -/
def execText (s : State) : Result := completeFrame 1 s

/-- BUNDLE_HEADER: at top level, bundle expansion (43_engine_rx.md R246); as the dispatch code of a bundle, a frame
dispatched with code 2, whose slot always holds the placeholder (R248, 30_encoding.md R107). -/
def execBundleHeader (s : State) : Result := if s.rx.rs = .fbody then completeFrame 2 s else startBundle s

/-- MULT (42_dispatch.md R208): a frame dispatched with code 3, whose slot always holds MULT. -/
def execMult (s : State) : Result := completeFrame 3 s

/-- EXIT (42_dispatch.md R209): a frame dispatched with code 5, whose slot always holds EXIT. -/
def execExit (s : State) : Result := completeFrame 5 s

end Sys2Proof.Machine
end

