-- ==== Sys2Proof/Machine/Reserved.lean ====
section
/-! DEFINITION. The reserved but unassigned action codes 0, 4 and 6..31 and code 255 (spec 30_encoding.md R106-R108).
The reserved codes' slots hold the placeholder for ever (42_dispatch.md R200, R206); code 255 has no slot (R204). -/

namespace Sys2Proof.Machine

/-- RESERVED_0. -/
def execReserved0 (s : State) : Result := completeFrame 0 s

/-- RESERVED_4. -/
def execReserved4 (s : State) : Result := completeFrame 4 s

/-- RESERVED_6. -/
def execReserved6 (s : State) : Result := completeFrame 6 s

/-- RESERVED_7. -/
def execReserved7 (s : State) : Result := completeFrame 7 s

/-- RESERVED_8. -/
def execReserved8 (s : State) : Result := completeFrame 8 s

/-- RESERVED_9. -/
def execReserved9 (s : State) : Result := completeFrame 9 s

/-- RESERVED_10. -/
def execReserved10 (s : State) : Result := completeFrame 10 s

/-- RESERVED_11. -/
def execReserved11 (s : State) : Result := completeFrame 11 s

/-- RESERVED_12. -/
def execReserved12 (s : State) : Result := completeFrame 12 s

/-- RESERVED_13. -/
def execReserved13 (s : State) : Result := completeFrame 13 s

/-- RESERVED_14. -/
def execReserved14 (s : State) : Result := completeFrame 14 s

/-- RESERVED_15. -/
def execReserved15 (s : State) : Result := completeFrame 15 s

/-- RESERVED_16. -/
def execReserved16 (s : State) : Result := completeFrame 16 s

/-- RESERVED_17. -/
def execReserved17 (s : State) : Result := completeFrame 17 s

/-- RESERVED_18. -/
def execReserved18 (s : State) : Result := completeFrame 18 s

/-- RESERVED_19. -/
def execReserved19 (s : State) : Result := completeFrame 19 s

/-- RESERVED_20. -/
def execReserved20 (s : State) : Result := completeFrame 20 s

/-- RESERVED_21. -/
def execReserved21 (s : State) : Result := completeFrame 21 s

/-- RESERVED_22. -/
def execReserved22 (s : State) : Result := completeFrame 22 s

/-- RESERVED_23. -/
def execReserved23 (s : State) : Result := completeFrame 23 s

/-- RESERVED_24. -/
def execReserved24 (s : State) : Result := completeFrame 24 s

/-- RESERVED_25. -/
def execReserved25 (s : State) : Result := completeFrame 25 s

/-- RESERVED_26. -/
def execReserved26 (s : State) : Result := completeFrame 26 s

/-- RESERVED_27. -/
def execReserved27 (s : State) : Result := completeFrame 27 s

/-- RESERVED_28. -/
def execReserved28 (s : State) : Result := completeFrame 28 s

/-- RESERVED_29. -/
def execReserved29 (s : State) : Result := completeFrame 29 s

/-- RESERVED_30. -/
def execReserved30 (s : State) : Result := completeFrame 30 s

/-- RESERVED_31. -/
def execReserved31 (s : State) : Result := completeFrame 31 s

/-- CODE_255. -/
def execCode255 (s : State) : Result := completeFrame 255 s

end Sys2Proof.Machine
end

