-- ==== Sys2Proof/Machine/User.lean ====
section
/-! DEFINITION. The user action codes 32..254 (spec 30_encoding.md R106): EXT(h) where BIND has bound the code
(42_dispatch.md R210), the placeholder where it has not (R206). Each is the completion of a frame with that dispatch
code. -/

namespace Sys2Proof.Machine

/-- USER_32. -/
def execUser32 (s : State) : Result := completeFrame 32 s

/-- USER_33. -/
def execUser33 (s : State) : Result := completeFrame 33 s

/-- USER_34. -/
def execUser34 (s : State) : Result := completeFrame 34 s

/-- USER_35. -/
def execUser35 (s : State) : Result := completeFrame 35 s

/-- USER_36. -/
def execUser36 (s : State) : Result := completeFrame 36 s

/-- USER_37. -/
def execUser37 (s : State) : Result := completeFrame 37 s

/-- USER_38. -/
def execUser38 (s : State) : Result := completeFrame 38 s

/-- USER_39. -/
def execUser39 (s : State) : Result := completeFrame 39 s

/-- USER_40. -/
def execUser40 (s : State) : Result := completeFrame 40 s

/-- USER_41. -/
def execUser41 (s : State) : Result := completeFrame 41 s

/-- USER_42. -/
def execUser42 (s : State) : Result := completeFrame 42 s

/-- USER_43. -/
def execUser43 (s : State) : Result := completeFrame 43 s

/-- USER_44. -/
def execUser44 (s : State) : Result := completeFrame 44 s

/-- USER_45. -/
def execUser45 (s : State) : Result := completeFrame 45 s

/-- USER_46. -/
def execUser46 (s : State) : Result := completeFrame 46 s

/-- USER_47. -/
def execUser47 (s : State) : Result := completeFrame 47 s

/-- USER_48. -/
def execUser48 (s : State) : Result := completeFrame 48 s

/-- USER_49. -/
def execUser49 (s : State) : Result := completeFrame 49 s

/-- USER_50. -/
def execUser50 (s : State) : Result := completeFrame 50 s

/-- USER_51. -/
def execUser51 (s : State) : Result := completeFrame 51 s

/-- USER_52. -/
def execUser52 (s : State) : Result := completeFrame 52 s

/-- USER_53. -/
def execUser53 (s : State) : Result := completeFrame 53 s

/-- USER_54. -/
def execUser54 (s : State) : Result := completeFrame 54 s

/-- USER_55. -/
def execUser55 (s : State) : Result := completeFrame 55 s

/-- USER_56. -/
def execUser56 (s : State) : Result := completeFrame 56 s

/-- USER_57. -/
def execUser57 (s : State) : Result := completeFrame 57 s

/-- USER_58. -/
def execUser58 (s : State) : Result := completeFrame 58 s

/-- USER_59. -/
def execUser59 (s : State) : Result := completeFrame 59 s

/-- USER_60. -/
def execUser60 (s : State) : Result := completeFrame 60 s

/-- USER_61. -/
def execUser61 (s : State) : Result := completeFrame 61 s

/-- USER_62. -/
def execUser62 (s : State) : Result := completeFrame 62 s

/-- USER_63. -/
def execUser63 (s : State) : Result := completeFrame 63 s

/-- USER_64. -/
def execUser64 (s : State) : Result := completeFrame 64 s

/-- USER_65. -/
def execUser65 (s : State) : Result := completeFrame 65 s

/-- USER_66. -/
def execUser66 (s : State) : Result := completeFrame 66 s

/-- USER_67. -/
def execUser67 (s : State) : Result := completeFrame 67 s

/-- USER_68. -/
def execUser68 (s : State) : Result := completeFrame 68 s

/-- USER_69. -/
def execUser69 (s : State) : Result := completeFrame 69 s

/-- USER_70. -/
def execUser70 (s : State) : Result := completeFrame 70 s

/-- USER_71. -/
def execUser71 (s : State) : Result := completeFrame 71 s

/-- USER_72. -/
def execUser72 (s : State) : Result := completeFrame 72 s

/-- USER_73. -/
def execUser73 (s : State) : Result := completeFrame 73 s

/-- USER_74. -/
def execUser74 (s : State) : Result := completeFrame 74 s

/-- USER_75. -/
def execUser75 (s : State) : Result := completeFrame 75 s

/-- USER_76. -/
def execUser76 (s : State) : Result := completeFrame 76 s

/-- USER_77. -/
def execUser77 (s : State) : Result := completeFrame 77 s

/-- USER_78. -/
def execUser78 (s : State) : Result := completeFrame 78 s

/-- USER_79. -/
def execUser79 (s : State) : Result := completeFrame 79 s

/-- USER_80. -/
def execUser80 (s : State) : Result := completeFrame 80 s

/-- USER_81. -/
def execUser81 (s : State) : Result := completeFrame 81 s

/-- USER_82. -/
def execUser82 (s : State) : Result := completeFrame 82 s

/-- USER_83. -/
def execUser83 (s : State) : Result := completeFrame 83 s

/-- USER_84. -/
def execUser84 (s : State) : Result := completeFrame 84 s

/-- USER_85. -/
def execUser85 (s : State) : Result := completeFrame 85 s

/-- USER_86. -/
def execUser86 (s : State) : Result := completeFrame 86 s

/-- USER_87. -/
def execUser87 (s : State) : Result := completeFrame 87 s

/-- USER_88. -/
def execUser88 (s : State) : Result := completeFrame 88 s

/-- USER_89. -/
def execUser89 (s : State) : Result := completeFrame 89 s

/-- USER_90. -/
def execUser90 (s : State) : Result := completeFrame 90 s

/-- USER_91. -/
def execUser91 (s : State) : Result := completeFrame 91 s

/-- USER_92. -/
def execUser92 (s : State) : Result := completeFrame 92 s

/-- USER_93. -/
def execUser93 (s : State) : Result := completeFrame 93 s

/-- USER_94. -/
def execUser94 (s : State) : Result := completeFrame 94 s

/-- USER_95. -/
def execUser95 (s : State) : Result := completeFrame 95 s

/-- USER_96. -/
def execUser96 (s : State) : Result := completeFrame 96 s

/-- USER_97. -/
def execUser97 (s : State) : Result := completeFrame 97 s

/-- USER_98. -/
def execUser98 (s : State) : Result := completeFrame 98 s

/-- USER_99. -/
def execUser99 (s : State) : Result := completeFrame 99 s

/-- USER_100. -/
def execUser100 (s : State) : Result := completeFrame 100 s

/-- USER_101. -/
def execUser101 (s : State) : Result := completeFrame 101 s

/-- USER_102. -/
def execUser102 (s : State) : Result := completeFrame 102 s

/-- USER_103. -/
def execUser103 (s : State) : Result := completeFrame 103 s

/-- USER_104. -/
def execUser104 (s : State) : Result := completeFrame 104 s

/-- USER_105. -/
def execUser105 (s : State) : Result := completeFrame 105 s

/-- USER_106. -/
def execUser106 (s : State) : Result := completeFrame 106 s

/-- USER_107. -/
def execUser107 (s : State) : Result := completeFrame 107 s

/-- USER_108. -/
def execUser108 (s : State) : Result := completeFrame 108 s

/-- USER_109. -/
def execUser109 (s : State) : Result := completeFrame 109 s

/-- USER_110. -/
def execUser110 (s : State) : Result := completeFrame 110 s

/-- USER_111. -/
def execUser111 (s : State) : Result := completeFrame 111 s

/-- USER_112. -/
def execUser112 (s : State) : Result := completeFrame 112 s

/-- USER_113. -/
def execUser113 (s : State) : Result := completeFrame 113 s

/-- USER_114. -/
def execUser114 (s : State) : Result := completeFrame 114 s

/-- USER_115. -/
def execUser115 (s : State) : Result := completeFrame 115 s

/-- USER_116. -/
def execUser116 (s : State) : Result := completeFrame 116 s

/-- USER_117. -/
def execUser117 (s : State) : Result := completeFrame 117 s

/-- USER_118. -/
def execUser118 (s : State) : Result := completeFrame 118 s

/-- USER_119. -/
def execUser119 (s : State) : Result := completeFrame 119 s

/-- USER_120. -/
def execUser120 (s : State) : Result := completeFrame 120 s

/-- USER_121. -/
def execUser121 (s : State) : Result := completeFrame 121 s

/-- USER_122. -/
def execUser122 (s : State) : Result := completeFrame 122 s

/-- USER_123. -/
def execUser123 (s : State) : Result := completeFrame 123 s

/-- USER_124. -/
def execUser124 (s : State) : Result := completeFrame 124 s

/-- USER_125. -/
def execUser125 (s : State) : Result := completeFrame 125 s

/-- USER_126. -/
def execUser126 (s : State) : Result := completeFrame 126 s

/-- USER_127. -/
def execUser127 (s : State) : Result := completeFrame 127 s

/-- USER_128. -/
def execUser128 (s : State) : Result := completeFrame 128 s

/-- USER_129. -/
def execUser129 (s : State) : Result := completeFrame 129 s

/-- USER_130. -/
def execUser130 (s : State) : Result := completeFrame 130 s

/-- USER_131. -/
def execUser131 (s : State) : Result := completeFrame 131 s

/-- USER_132. -/
def execUser132 (s : State) : Result := completeFrame 132 s

/-- USER_133. -/
def execUser133 (s : State) : Result := completeFrame 133 s

/-- USER_134. -/
def execUser134 (s : State) : Result := completeFrame 134 s

/-- USER_135. -/
def execUser135 (s : State) : Result := completeFrame 135 s

/-- USER_136. -/
def execUser136 (s : State) : Result := completeFrame 136 s

/-- USER_137. -/
def execUser137 (s : State) : Result := completeFrame 137 s

/-- USER_138. -/
def execUser138 (s : State) : Result := completeFrame 138 s

/-- USER_139. -/
def execUser139 (s : State) : Result := completeFrame 139 s

/-- USER_140. -/
def execUser140 (s : State) : Result := completeFrame 140 s

/-- USER_141. -/
def execUser141 (s : State) : Result := completeFrame 141 s

/-- USER_142. -/
def execUser142 (s : State) : Result := completeFrame 142 s

/-- USER_143. -/
def execUser143 (s : State) : Result := completeFrame 143 s

/-- USER_144. -/
def execUser144 (s : State) : Result := completeFrame 144 s

/-- USER_145. -/
def execUser145 (s : State) : Result := completeFrame 145 s

/-- USER_146. -/
def execUser146 (s : State) : Result := completeFrame 146 s

/-- USER_147. -/
def execUser147 (s : State) : Result := completeFrame 147 s

/-- USER_148. -/
def execUser148 (s : State) : Result := completeFrame 148 s

/-- USER_149. -/
def execUser149 (s : State) : Result := completeFrame 149 s

/-- USER_150. -/
def execUser150 (s : State) : Result := completeFrame 150 s

/-- USER_151. -/
def execUser151 (s : State) : Result := completeFrame 151 s

/-- USER_152. -/
def execUser152 (s : State) : Result := completeFrame 152 s

/-- USER_153. -/
def execUser153 (s : State) : Result := completeFrame 153 s

/-- USER_154. -/
def execUser154 (s : State) : Result := completeFrame 154 s

/-- USER_155. -/
def execUser155 (s : State) : Result := completeFrame 155 s

/-- USER_156. -/
def execUser156 (s : State) : Result := completeFrame 156 s

/-- USER_157. -/
def execUser157 (s : State) : Result := completeFrame 157 s

/-- USER_158. -/
def execUser158 (s : State) : Result := completeFrame 158 s

/-- USER_159. -/
def execUser159 (s : State) : Result := completeFrame 159 s

/-- USER_160. -/
def execUser160 (s : State) : Result := completeFrame 160 s

/-- USER_161. -/
def execUser161 (s : State) : Result := completeFrame 161 s

/-- USER_162. -/
def execUser162 (s : State) : Result := completeFrame 162 s

/-- USER_163. -/
def execUser163 (s : State) : Result := completeFrame 163 s

/-- USER_164. -/
def execUser164 (s : State) : Result := completeFrame 164 s

/-- USER_165. -/
def execUser165 (s : State) : Result := completeFrame 165 s

/-- USER_166. -/
def execUser166 (s : State) : Result := completeFrame 166 s

/-- USER_167. -/
def execUser167 (s : State) : Result := completeFrame 167 s

/-- USER_168. -/
def execUser168 (s : State) : Result := completeFrame 168 s

/-- USER_169. -/
def execUser169 (s : State) : Result := completeFrame 169 s

/-- USER_170. -/
def execUser170 (s : State) : Result := completeFrame 170 s

/-- USER_171. -/
def execUser171 (s : State) : Result := completeFrame 171 s

/-- USER_172. -/
def execUser172 (s : State) : Result := completeFrame 172 s

/-- USER_173. -/
def execUser173 (s : State) : Result := completeFrame 173 s

/-- USER_174. -/
def execUser174 (s : State) : Result := completeFrame 174 s

/-- USER_175. -/
def execUser175 (s : State) : Result := completeFrame 175 s

/-- USER_176. -/
def execUser176 (s : State) : Result := completeFrame 176 s

/-- USER_177. -/
def execUser177 (s : State) : Result := completeFrame 177 s

/-- USER_178. -/
def execUser178 (s : State) : Result := completeFrame 178 s

/-- USER_179. -/
def execUser179 (s : State) : Result := completeFrame 179 s

/-- USER_180. -/
def execUser180 (s : State) : Result := completeFrame 180 s

/-- USER_181. -/
def execUser181 (s : State) : Result := completeFrame 181 s

/-- USER_182. -/
def execUser182 (s : State) : Result := completeFrame 182 s

/-- USER_183. -/
def execUser183 (s : State) : Result := completeFrame 183 s

/-- USER_184. -/
def execUser184 (s : State) : Result := completeFrame 184 s

/-- USER_185. -/
def execUser185 (s : State) : Result := completeFrame 185 s

/-- USER_186. -/
def execUser186 (s : State) : Result := completeFrame 186 s

/-- USER_187. -/
def execUser187 (s : State) : Result := completeFrame 187 s

/-- USER_188. -/
def execUser188 (s : State) : Result := completeFrame 188 s

/-- USER_189. -/
def execUser189 (s : State) : Result := completeFrame 189 s

/-- USER_190. -/
def execUser190 (s : State) : Result := completeFrame 190 s

/-- USER_191. -/
def execUser191 (s : State) : Result := completeFrame 191 s

/-- USER_192. -/
def execUser192 (s : State) : Result := completeFrame 192 s

/-- USER_193. -/
def execUser193 (s : State) : Result := completeFrame 193 s

/-- USER_194. -/
def execUser194 (s : State) : Result := completeFrame 194 s

/-- USER_195. -/
def execUser195 (s : State) : Result := completeFrame 195 s

/-- USER_196. -/
def execUser196 (s : State) : Result := completeFrame 196 s

/-- USER_197. -/
def execUser197 (s : State) : Result := completeFrame 197 s

/-- USER_198. -/
def execUser198 (s : State) : Result := completeFrame 198 s

/-- USER_199. -/
def execUser199 (s : State) : Result := completeFrame 199 s

/-- USER_200. -/
def execUser200 (s : State) : Result := completeFrame 200 s

/-- USER_201. -/
def execUser201 (s : State) : Result := completeFrame 201 s

/-- USER_202. -/
def execUser202 (s : State) : Result := completeFrame 202 s

/-- USER_203. -/
def execUser203 (s : State) : Result := completeFrame 203 s

/-- USER_204. -/
def execUser204 (s : State) : Result := completeFrame 204 s

/-- USER_205. -/
def execUser205 (s : State) : Result := completeFrame 205 s

/-- USER_206. -/
def execUser206 (s : State) : Result := completeFrame 206 s

/-- USER_207. -/
def execUser207 (s : State) : Result := completeFrame 207 s

/-- USER_208. -/
def execUser208 (s : State) : Result := completeFrame 208 s

/-- USER_209. -/
def execUser209 (s : State) : Result := completeFrame 209 s

/-- USER_210. -/
def execUser210 (s : State) : Result := completeFrame 210 s

/-- USER_211. -/
def execUser211 (s : State) : Result := completeFrame 211 s

/-- USER_212. -/
def execUser212 (s : State) : Result := completeFrame 212 s

/-- USER_213. -/
def execUser213 (s : State) : Result := completeFrame 213 s

/-- USER_214. -/
def execUser214 (s : State) : Result := completeFrame 214 s

/-- USER_215. -/
def execUser215 (s : State) : Result := completeFrame 215 s

/-- USER_216. -/
def execUser216 (s : State) : Result := completeFrame 216 s

/-- USER_217. -/
def execUser217 (s : State) : Result := completeFrame 217 s

/-- USER_218. -/
def execUser218 (s : State) : Result := completeFrame 218 s

/-- USER_219. -/
def execUser219 (s : State) : Result := completeFrame 219 s

/-- USER_220. -/
def execUser220 (s : State) : Result := completeFrame 220 s

/-- USER_221. -/
def execUser221 (s : State) : Result := completeFrame 221 s

/-- USER_222. -/
def execUser222 (s : State) : Result := completeFrame 222 s

/-- USER_223. -/
def execUser223 (s : State) : Result := completeFrame 223 s

/-- USER_224. -/
def execUser224 (s : State) : Result := completeFrame 224 s

/-- USER_225. -/
def execUser225 (s : State) : Result := completeFrame 225 s

/-- USER_226. -/
def execUser226 (s : State) : Result := completeFrame 226 s

/-- USER_227. -/
def execUser227 (s : State) : Result := completeFrame 227 s

/-- USER_228. -/
def execUser228 (s : State) : Result := completeFrame 228 s

/-- USER_229. -/
def execUser229 (s : State) : Result := completeFrame 229 s

/-- USER_230. -/
def execUser230 (s : State) : Result := completeFrame 230 s

/-- USER_231. -/
def execUser231 (s : State) : Result := completeFrame 231 s

/-- USER_232. -/
def execUser232 (s : State) : Result := completeFrame 232 s

/-- USER_233. -/
def execUser233 (s : State) : Result := completeFrame 233 s

/-- USER_234. -/
def execUser234 (s : State) : Result := completeFrame 234 s

/-- USER_235. -/
def execUser235 (s : State) : Result := completeFrame 235 s

/-- USER_236. -/
def execUser236 (s : State) : Result := completeFrame 236 s

/-- USER_237. -/
def execUser237 (s : State) : Result := completeFrame 237 s

/-- USER_238. -/
def execUser238 (s : State) : Result := completeFrame 238 s

/-- USER_239. -/
def execUser239 (s : State) : Result := completeFrame 239 s

/-- USER_240. -/
def execUser240 (s : State) : Result := completeFrame 240 s

/-- USER_241. -/
def execUser241 (s : State) : Result := completeFrame 241 s

/-- USER_242. -/
def execUser242 (s : State) : Result := completeFrame 242 s

/-- USER_243. -/
def execUser243 (s : State) : Result := completeFrame 243 s

/-- USER_244. -/
def execUser244 (s : State) : Result := completeFrame 244 s

/-- USER_245. -/
def execUser245 (s : State) : Result := completeFrame 245 s

/-- USER_246. -/
def execUser246 (s : State) : Result := completeFrame 246 s

/-- USER_247. -/
def execUser247 (s : State) : Result := completeFrame 247 s

/-- USER_248. -/
def execUser248 (s : State) : Result := completeFrame 248 s

/-- USER_249. -/
def execUser249 (s : State) : Result := completeFrame 249 s

/-- USER_250. -/
def execUser250 (s : State) : Result := completeFrame 250 s

/-- USER_251. -/
def execUser251 (s : State) : Result := completeFrame 251 s

/-- USER_252. -/
def execUser252 (s : State) : Result := completeFrame 252 s

/-- USER_253. -/
def execUser253 (s : State) : Result := completeFrame 253 s

/-- USER_254. -/
def execUser254 (s : State) : Result := completeFrame 254 s

end Sys2Proof.Machine
end

