-- ==== Sys2Proof/Machine/Dispatch.lean ====
section
/-! DEFINITION. The meaning of every instruction: one arm per constructor of Instr. -/

namespace Sys2Proof.Machine

def exec (i : Instr) (s : State) : Host.Outcome State Fault Refusal :=
  match i with
  | .sendMsg p => Sys2Proof.Machine.execSendMsg p s
  | .sendBundle p => Sys2Proof.Machine.execSendBundle p s
  | .bind p => Sys2Proof.Machine.execBind p s
  | .unbind p => Sys2Proof.Machine.execUnbind p s
  | .isUsed p => Sys2Proof.Machine.execIsUsed p s
  | .badCommand p w => Sys2Proof.Machine.execBadCommand p w s
  | .reserved0 => Sys2Proof.Machine.execReserved0 s
  | .text => Sys2Proof.Machine.execText s
  | .bundleHeader => Sys2Proof.Machine.execBundleHeader s
  | .mult => Sys2Proof.Machine.execMult s
  | .reserved4 => Sys2Proof.Machine.execReserved4 s
  | .exit => Sys2Proof.Machine.execExit s
  | .reserved6 => Sys2Proof.Machine.execReserved6 s
  | .reserved7 => Sys2Proof.Machine.execReserved7 s
  | .reserved8 => Sys2Proof.Machine.execReserved8 s
  | .reserved9 => Sys2Proof.Machine.execReserved9 s
  | .reserved10 => Sys2Proof.Machine.execReserved10 s
  | .reserved11 => Sys2Proof.Machine.execReserved11 s
  | .reserved12 => Sys2Proof.Machine.execReserved12 s
  | .reserved13 => Sys2Proof.Machine.execReserved13 s
  | .reserved14 => Sys2Proof.Machine.execReserved14 s
  | .reserved15 => Sys2Proof.Machine.execReserved15 s
  | .reserved16 => Sys2Proof.Machine.execReserved16 s
  | .reserved17 => Sys2Proof.Machine.execReserved17 s
  | .reserved18 => Sys2Proof.Machine.execReserved18 s
  | .reserved19 => Sys2Proof.Machine.execReserved19 s
  | .reserved20 => Sys2Proof.Machine.execReserved20 s
  | .reserved21 => Sys2Proof.Machine.execReserved21 s
  | .reserved22 => Sys2Proof.Machine.execReserved22 s
  | .reserved23 => Sys2Proof.Machine.execReserved23 s
  | .reserved24 => Sys2Proof.Machine.execReserved24 s
  | .reserved25 => Sys2Proof.Machine.execReserved25 s
  | .reserved26 => Sys2Proof.Machine.execReserved26 s
  | .reserved27 => Sys2Proof.Machine.execReserved27 s
  | .reserved28 => Sys2Proof.Machine.execReserved28 s
  | .reserved29 => Sys2Proof.Machine.execReserved29 s
  | .reserved30 => Sys2Proof.Machine.execReserved30 s
  | .reserved31 => Sys2Proof.Machine.execReserved31 s
  | .user32 => Sys2Proof.Machine.execUser32 s
  | .user33 => Sys2Proof.Machine.execUser33 s
  | .user34 => Sys2Proof.Machine.execUser34 s
  | .user35 => Sys2Proof.Machine.execUser35 s
  | .user36 => Sys2Proof.Machine.execUser36 s
  | .user37 => Sys2Proof.Machine.execUser37 s
  | .user38 => Sys2Proof.Machine.execUser38 s
  | .user39 => Sys2Proof.Machine.execUser39 s
  | .user40 => Sys2Proof.Machine.execUser40 s
  | .user41 => Sys2Proof.Machine.execUser41 s
  | .user42 => Sys2Proof.Machine.execUser42 s
  | .user43 => Sys2Proof.Machine.execUser43 s
  | .user44 => Sys2Proof.Machine.execUser44 s
  | .user45 => Sys2Proof.Machine.execUser45 s
  | .user46 => Sys2Proof.Machine.execUser46 s
  | .user47 => Sys2Proof.Machine.execUser47 s
  | .user48 => Sys2Proof.Machine.execUser48 s
  | .user49 => Sys2Proof.Machine.execUser49 s
  | .user50 => Sys2Proof.Machine.execUser50 s
  | .user51 => Sys2Proof.Machine.execUser51 s
  | .user52 => Sys2Proof.Machine.execUser52 s
  | .user53 => Sys2Proof.Machine.execUser53 s
  | .user54 => Sys2Proof.Machine.execUser54 s
  | .user55 => Sys2Proof.Machine.execUser55 s
  | .user56 => Sys2Proof.Machine.execUser56 s
  | .user57 => Sys2Proof.Machine.execUser57 s
  | .user58 => Sys2Proof.Machine.execUser58 s
  | .user59 => Sys2Proof.Machine.execUser59 s
  | .user60 => Sys2Proof.Machine.execUser60 s
  | .user61 => Sys2Proof.Machine.execUser61 s
  | .user62 => Sys2Proof.Machine.execUser62 s
  | .user63 => Sys2Proof.Machine.execUser63 s
  | .user64 => Sys2Proof.Machine.execUser64 s
  | .user65 => Sys2Proof.Machine.execUser65 s
  | .user66 => Sys2Proof.Machine.execUser66 s
  | .user67 => Sys2Proof.Machine.execUser67 s
  | .user68 => Sys2Proof.Machine.execUser68 s
  | .user69 => Sys2Proof.Machine.execUser69 s
  | .user70 => Sys2Proof.Machine.execUser70 s
  | .user71 => Sys2Proof.Machine.execUser71 s
  | .user72 => Sys2Proof.Machine.execUser72 s
  | .user73 => Sys2Proof.Machine.execUser73 s
  | .user74 => Sys2Proof.Machine.execUser74 s
  | .user75 => Sys2Proof.Machine.execUser75 s
  | .user76 => Sys2Proof.Machine.execUser76 s
  | .user77 => Sys2Proof.Machine.execUser77 s
  | .user78 => Sys2Proof.Machine.execUser78 s
  | .user79 => Sys2Proof.Machine.execUser79 s
  | .user80 => Sys2Proof.Machine.execUser80 s
  | .user81 => Sys2Proof.Machine.execUser81 s
  | .user82 => Sys2Proof.Machine.execUser82 s
  | .user83 => Sys2Proof.Machine.execUser83 s
  | .user84 => Sys2Proof.Machine.execUser84 s
  | .user85 => Sys2Proof.Machine.execUser85 s
  | .user86 => Sys2Proof.Machine.execUser86 s
  | .user87 => Sys2Proof.Machine.execUser87 s
  | .user88 => Sys2Proof.Machine.execUser88 s
  | .user89 => Sys2Proof.Machine.execUser89 s
  | .user90 => Sys2Proof.Machine.execUser90 s
  | .user91 => Sys2Proof.Machine.execUser91 s
  | .user92 => Sys2Proof.Machine.execUser92 s
  | .user93 => Sys2Proof.Machine.execUser93 s
  | .user94 => Sys2Proof.Machine.execUser94 s
  | .user95 => Sys2Proof.Machine.execUser95 s
  | .user96 => Sys2Proof.Machine.execUser96 s
  | .user97 => Sys2Proof.Machine.execUser97 s
  | .user98 => Sys2Proof.Machine.execUser98 s
  | .user99 => Sys2Proof.Machine.execUser99 s
  | .user100 => Sys2Proof.Machine.execUser100 s
  | .user101 => Sys2Proof.Machine.execUser101 s
  | .user102 => Sys2Proof.Machine.execUser102 s
  | .user103 => Sys2Proof.Machine.execUser103 s
  | .user104 => Sys2Proof.Machine.execUser104 s
  | .user105 => Sys2Proof.Machine.execUser105 s
  | .user106 => Sys2Proof.Machine.execUser106 s
  | .user107 => Sys2Proof.Machine.execUser107 s
  | .user108 => Sys2Proof.Machine.execUser108 s
  | .user109 => Sys2Proof.Machine.execUser109 s
  | .user110 => Sys2Proof.Machine.execUser110 s
  | .user111 => Sys2Proof.Machine.execUser111 s
  | .user112 => Sys2Proof.Machine.execUser112 s
  | .user113 => Sys2Proof.Machine.execUser113 s
  | .user114 => Sys2Proof.Machine.execUser114 s
  | .user115 => Sys2Proof.Machine.execUser115 s
  | .user116 => Sys2Proof.Machine.execUser116 s
  | .user117 => Sys2Proof.Machine.execUser117 s
  | .user118 => Sys2Proof.Machine.execUser118 s
  | .user119 => Sys2Proof.Machine.execUser119 s
  | .user120 => Sys2Proof.Machine.execUser120 s
  | .user121 => Sys2Proof.Machine.execUser121 s
  | .user122 => Sys2Proof.Machine.execUser122 s
  | .user123 => Sys2Proof.Machine.execUser123 s
  | .user124 => Sys2Proof.Machine.execUser124 s
  | .user125 => Sys2Proof.Machine.execUser125 s
  | .user126 => Sys2Proof.Machine.execUser126 s
  | .user127 => Sys2Proof.Machine.execUser127 s
  | .user128 => Sys2Proof.Machine.execUser128 s
  | .user129 => Sys2Proof.Machine.execUser129 s
  | .user130 => Sys2Proof.Machine.execUser130 s
  | .user131 => Sys2Proof.Machine.execUser131 s
  | .user132 => Sys2Proof.Machine.execUser132 s
  | .user133 => Sys2Proof.Machine.execUser133 s
  | .user134 => Sys2Proof.Machine.execUser134 s
  | .user135 => Sys2Proof.Machine.execUser135 s
  | .user136 => Sys2Proof.Machine.execUser136 s
  | .user137 => Sys2Proof.Machine.execUser137 s
  | .user138 => Sys2Proof.Machine.execUser138 s
  | .user139 => Sys2Proof.Machine.execUser139 s
  | .user140 => Sys2Proof.Machine.execUser140 s
  | .user141 => Sys2Proof.Machine.execUser141 s
  | .user142 => Sys2Proof.Machine.execUser142 s
  | .user143 => Sys2Proof.Machine.execUser143 s
  | .user144 => Sys2Proof.Machine.execUser144 s
  | .user145 => Sys2Proof.Machine.execUser145 s
  | .user146 => Sys2Proof.Machine.execUser146 s
  | .user147 => Sys2Proof.Machine.execUser147 s
  | .user148 => Sys2Proof.Machine.execUser148 s
  | .user149 => Sys2Proof.Machine.execUser149 s
  | .user150 => Sys2Proof.Machine.execUser150 s
  | .user151 => Sys2Proof.Machine.execUser151 s
  | .user152 => Sys2Proof.Machine.execUser152 s
  | .user153 => Sys2Proof.Machine.execUser153 s
  | .user154 => Sys2Proof.Machine.execUser154 s
  | .user155 => Sys2Proof.Machine.execUser155 s
  | .user156 => Sys2Proof.Machine.execUser156 s
  | .user157 => Sys2Proof.Machine.execUser157 s
  | .user158 => Sys2Proof.Machine.execUser158 s
  | .user159 => Sys2Proof.Machine.execUser159 s
  | .user160 => Sys2Proof.Machine.execUser160 s
  | .user161 => Sys2Proof.Machine.execUser161 s
  | .user162 => Sys2Proof.Machine.execUser162 s
  | .user163 => Sys2Proof.Machine.execUser163 s
  | .user164 => Sys2Proof.Machine.execUser164 s
  | .user165 => Sys2Proof.Machine.execUser165 s
  | .user166 => Sys2Proof.Machine.execUser166 s
  | .user167 => Sys2Proof.Machine.execUser167 s
  | .user168 => Sys2Proof.Machine.execUser168 s
  | .user169 => Sys2Proof.Machine.execUser169 s
  | .user170 => Sys2Proof.Machine.execUser170 s
  | .user171 => Sys2Proof.Machine.execUser171 s
  | .user172 => Sys2Proof.Machine.execUser172 s
  | .user173 => Sys2Proof.Machine.execUser173 s
  | .user174 => Sys2Proof.Machine.execUser174 s
  | .user175 => Sys2Proof.Machine.execUser175 s
  | .user176 => Sys2Proof.Machine.execUser176 s
  | .user177 => Sys2Proof.Machine.execUser177 s
  | .user178 => Sys2Proof.Machine.execUser178 s
  | .user179 => Sys2Proof.Machine.execUser179 s
  | .user180 => Sys2Proof.Machine.execUser180 s
  | .user181 => Sys2Proof.Machine.execUser181 s
  | .user182 => Sys2Proof.Machine.execUser182 s
  | .user183 => Sys2Proof.Machine.execUser183 s
  | .user184 => Sys2Proof.Machine.execUser184 s
  | .user185 => Sys2Proof.Machine.execUser185 s
  | .user186 => Sys2Proof.Machine.execUser186 s
  | .user187 => Sys2Proof.Machine.execUser187 s
  | .user188 => Sys2Proof.Machine.execUser188 s
  | .user189 => Sys2Proof.Machine.execUser189 s
  | .user190 => Sys2Proof.Machine.execUser190 s
  | .user191 => Sys2Proof.Machine.execUser191 s
  | .user192 => Sys2Proof.Machine.execUser192 s
  | .user193 => Sys2Proof.Machine.execUser193 s
  | .user194 => Sys2Proof.Machine.execUser194 s
  | .user195 => Sys2Proof.Machine.execUser195 s
  | .user196 => Sys2Proof.Machine.execUser196 s
  | .user197 => Sys2Proof.Machine.execUser197 s
  | .user198 => Sys2Proof.Machine.execUser198 s
  | .user199 => Sys2Proof.Machine.execUser199 s
  | .user200 => Sys2Proof.Machine.execUser200 s
  | .user201 => Sys2Proof.Machine.execUser201 s
  | .user202 => Sys2Proof.Machine.execUser202 s
  | .user203 => Sys2Proof.Machine.execUser203 s
  | .user204 => Sys2Proof.Machine.execUser204 s
  | .user205 => Sys2Proof.Machine.execUser205 s
  | .user206 => Sys2Proof.Machine.execUser206 s
  | .user207 => Sys2Proof.Machine.execUser207 s
  | .user208 => Sys2Proof.Machine.execUser208 s
  | .user209 => Sys2Proof.Machine.execUser209 s
  | .user210 => Sys2Proof.Machine.execUser210 s
  | .user211 => Sys2Proof.Machine.execUser211 s
  | .user212 => Sys2Proof.Machine.execUser212 s
  | .user213 => Sys2Proof.Machine.execUser213 s
  | .user214 => Sys2Proof.Machine.execUser214 s
  | .user215 => Sys2Proof.Machine.execUser215 s
  | .user216 => Sys2Proof.Machine.execUser216 s
  | .user217 => Sys2Proof.Machine.execUser217 s
  | .user218 => Sys2Proof.Machine.execUser218 s
  | .user219 => Sys2Proof.Machine.execUser219 s
  | .user220 => Sys2Proof.Machine.execUser220 s
  | .user221 => Sys2Proof.Machine.execUser221 s
  | .user222 => Sys2Proof.Machine.execUser222 s
  | .user223 => Sys2Proof.Machine.execUser223 s
  | .user224 => Sys2Proof.Machine.execUser224 s
  | .user225 => Sys2Proof.Machine.execUser225 s
  | .user226 => Sys2Proof.Machine.execUser226 s
  | .user227 => Sys2Proof.Machine.execUser227 s
  | .user228 => Sys2Proof.Machine.execUser228 s
  | .user229 => Sys2Proof.Machine.execUser229 s
  | .user230 => Sys2Proof.Machine.execUser230 s
  | .user231 => Sys2Proof.Machine.execUser231 s
  | .user232 => Sys2Proof.Machine.execUser232 s
  | .user233 => Sys2Proof.Machine.execUser233 s
  | .user234 => Sys2Proof.Machine.execUser234 s
  | .user235 => Sys2Proof.Machine.execUser235 s
  | .user236 => Sys2Proof.Machine.execUser236 s
  | .user237 => Sys2Proof.Machine.execUser237 s
  | .user238 => Sys2Proof.Machine.execUser238 s
  | .user239 => Sys2Proof.Machine.execUser239 s
  | .user240 => Sys2Proof.Machine.execUser240 s
  | .user241 => Sys2Proof.Machine.execUser241 s
  | .user242 => Sys2Proof.Machine.execUser242 s
  | .user243 => Sys2Proof.Machine.execUser243 s
  | .user244 => Sys2Proof.Machine.execUser244 s
  | .user245 => Sys2Proof.Machine.execUser245 s
  | .user246 => Sys2Proof.Machine.execUser246 s
  | .user247 => Sys2Proof.Machine.execUser247 s
  | .user248 => Sys2Proof.Machine.execUser248 s
  | .user249 => Sys2Proof.Machine.execUser249 s
  | .user250 => Sys2Proof.Machine.execUser250 s
  | .user251 => Sys2Proof.Machine.execUser251 s
  | .user252 => Sys2Proof.Machine.execUser252 s
  | .user253 => Sys2Proof.Machine.execUser253 s
  | .user254 => Sys2Proof.Machine.execUser254 s
  | .code255 => Sys2Proof.Machine.execCode255 s

end Sys2Proof.Machine
end

