-- ==== Sys2Proof/Machine/Flags.lean ====
section
/-! DEFINITION. The status bits and their words: the numbers of the spec's names (spec 30_encoding.md R115-R117), the
words the status registers read as (10_state.md R23-R38), and the sticky bits' clearing (45_host_interface.md R319). -/

namespace Sys2Proof.Machine

/-! ## Numbers of names -/

/-- A flag as a number. -/
def bit (b : Bool) : Nat := if b then 1 else 0

/-- GSTATUS.RXSTATE (R117). -/
def RxState.number : RxState → Nat
  | .hdr => 0
  | .body => 1
  | .fhdr => 2
  | .fbody => 3
  | .dwait => 4
  | .dead => 5

/-- KIND of a slot (R115). -/
def SlotKind.number : SlotKind → Nat
  | .placeholder => 0
  | .text => 1
  | .mult => 2
  | .exit => 3
  | .ext => 4

/-- PSTATUS.ERR (R116). -/
def ErrCode.number : ErrCode → Nat
  | .ok => 0x00
  | .valueNotInteger => 0x01
  | .valueOutOfByteRange => 0x02
  | .oversizedMessage => 0x03
  | .slotRange => 0x04
  | .notInvocable => 0x05
  | .slotAlreadyUsed => 0x06
  | .emptySlot => 0x07
  | .txFault => 0x08
  | .halted => 0x09
  | .badCommand => 0x0A

/-- LAST_FAIL.CAUSE (R117). -/
def Cause.number : Cause → Nat
  | .none => 0
  | .handler => 1
  | .multLiteral => 2
  | .codeRange => 3

/-- RXF_KIND.KIND (R117). -/
def FrameKind.number : FrameKind → Nat
  | .none => 0
  | .message => 1
  | .broken => 2
  | .bundle => 3

/-! ## Register words -/

/-- The word of a slot entry (R115). -/
def Slot.word (x : Slot) : Word := BitVec.ofNat 32 (x.kind.number + x.hid.toNat * 2 ^ 8)

/-- ID (10_state.md R23). -/
def idWord : Word := 0x46504D4C

/-- PARAM (R24). -/
def paramWord (P : Params) : Word :=
  BitVec.ofNat 32 (P.nport % 2 ^ 4 + (P.nhandler - 1) % 2 ^ 8 * 2 ^ 8 + P.fill.toNat * 2 ^ 16)

/-- CLKHZ (R25). -/
def clkhzWord (P : Params) : Word := BitVec.ofNat 32 P.clkHz

/-- GSTATUS (R26). -/
def gstatusWord (s : State) : Word :=
  BitVec.ofNat 32 (bit s.halted + bit (s.rx.rs == .dead) * 2 ^ 1 + bit s.cfgerr * 2 ^ 2 + bit s.ackdrop * 2 ^ 3
    + bit (s.tx.ts != .idle) * 2 ^ 4 + (if s.tx.ts = .idle then 0 else s.tx.gp % 2 ^ 3) * 2 ^ 5
    + s.rx.rs.number * 2 ^ 8 + bit s.disp.pend * 2 ^ 12)

/-- TMULT (R28). -/
def tmultWord (t : TMult) : Word := BitVec.ofNat 32 (t.mult.toNat + bit t.inf * 2 ^ 16)

/-- DISP_INFO (R31). -/
def dispWord (d : DispInfo) : Word :=
  BitVec.ofNat 32 (d.code.toNat + d.hid.toNat * 2 ^ 8 + d.kind.number * 2 ^ 16 + bit d.pend * 2 ^ 31)

/-- LAST_FAIL (R33). -/
def lastFailWord (f : LastFail) : Word :=
  BitVec.ofNat 32 (f.code.toNat + f.cause.number * 2 ^ 8 + f.hid.toNat * 2 ^ 16)

/-- RXF_HDR (R34): the first wire byte in the lowest lane (20_memory.md R77). -/
def headerWord (h : Header) : Word :=
  BitVec.ofNat 32 (h.len.toNat + h.sender.toNat * 2 ^ 8 + h.target.toNat * 2 ^ 16 + h.code.toNat * 2 ^ 24)

/-- RXF_KIND (R35). -/
def rxfKindWord (v : FrameView) : Word :=
  BitVec.ofNat 32 (v.kind.number + bit v.anyBroken * 2 ^ 8 + bit v.mismatch * 2 ^ 9)

/-- PSTATUS (R38): BUSY and WAITLOCK are read off pst[p] (R43). -/
def pstatusWord (P : Port) : Word :=
  BitVec.ofNat 32 (bit (P.pst != .idle) + bit (P.pst == .waitlock) * 2 ^ 1 + bit P.done * 2 ^ 2 + bit P.cmddrop * 2 ^ 3
    + bit P.wdrop * 2 ^ 4 + P.err.number * 2 ^ 8)

/-! ## Sticky bits: a written 1 clears (45_host_interface.md R319) -/

/-- A sticky bit after a write with `w[i]` at its place. -/
def w1c (flag : Bool) (w : Word) (i : Nat) : Bool := flag && !w.getLsbD i

/-- GSTATUS written: only CFGERR (bit 2) and ACKDROP (bit 3) can change. -/
def State.writeGstatus (s : State) (w : Word) : State :=
  { s with cfgerr := w1c s.cfgerr w 2, ackdrop := w1c s.ackdrop w 3 }

/-- PSTATUS written: only CMDDROP (bit 3) and WDROP (bit 4) can change. -/
def Port.writePstatus (P : Port) (w : Word) : Port :=
  { P with cmddrop := w1c P.cmddrop w 3, wdrop := w1c P.wdrop w 4 }

end Sys2Proof.Machine
end

