-- ==== Sys2Proof/Machine/Registers.lean ====
section
/-! DEFINITION. The host bus: the register map (spec 10_state.md R22, 20_memory.md R71), reads and writes (R73-R76), and
the effect of every write that does more than store a value (45_host_interface.md R310-R320). -/

namespace Sys2Proof.Machine

/-! ## The map -/

/-- The global registers (10_state.md R22). -/
inductive GlobalReg where
  | id | param | clkhz | gstatus | devAddr | tmult | bps | chunk | dispInfo | dispAck | lastFail
  | rxfHdr | rxfCode | rxfKind | rxfBodylen | rxfRcvlen | rxfNfrag
  | cntRxframe | cntRxdrop | cntBroken | cntHfail | cntBadbundle
deriving DecidableEq, Repr

/-- The registers of a port (10_state.md R22). -/
inductive PortReg where
  | pcmd | pstatus | presult | parg0 | parg1 | txLen | txSender | txTarget | txCode
deriving DecidableEq, Repr

/-- The global register at a byte address (R22). -/
def globalReg? (a : Nat) : Option GlobalReg :=
  match a with
  | 0x00 => some .id
  | 0x04 => some .param
  | 0x08 => some .clkhz
  | 0x0C => some .gstatus
  | 0x10 => some .devAddr
  | 0x14 => some .tmult
  | 0x18 => some .bps
  | 0x1C => some .chunk
  | 0x20 => some .dispInfo
  | 0x24 => some .dispAck
  | 0x28 => some .lastFail
  | 0x30 => some .rxfHdr
  | 0x34 => some .rxfCode
  | 0x38 => some .rxfKind
  | 0x3C => some .rxfBodylen
  | 0x40 => some .rxfRcvlen
  | 0x44 => some .rxfNfrag
  | 0x50 => some .cntRxframe
  | 0x54 => some .cntRxdrop
  | 0x58 => some .cntBroken
  | 0x5C => some .cntHfail
  | 0x60 => some .cntBadbundle
  | _ => none

/-- The port register at an offset from PB(p) (R22). -/
def portReg? (o : Nat) : Option PortReg :=
  match o with
  | 0x00 => some .pcmd
  | 0x04 => some .pstatus
  | 0x08 => some .presult
  | 0x0C => some .parg0
  | 0x10 => some .parg1
  | 0x14 => some .txLen
  | 0x18 => some .txSender
  | 0x1C => some .txTarget
  | 0x20 => some .txCode
  | _ => none

/-- What a byte address of the bus reaches (20_memory.md R71). -/
inductive BusTarget where
  | glob (r : GlobalReg)
  | port (p : Nat) (r : PortReg)
  /-- slot window word c -/
  | slot (c : Nat)
  /-- RXBUF window, byte offset o -/
  | rxbuf (o : Nat)
  /-- TXBUF[p] window, byte offset o -/
  | txbuf (p o : Nat)
  | unmapped
deriving DecidableEq, Repr

/-- A register that may be named there, or nothing. -/
def targetOf {α : Type} (r : Option α) (mk : α → BusTarget) : BusTarget :=
  match r with
  | some x => mk x
  | none => .unmapped

/-- PB(p), the base of port p's registers (10_state.md R22). -/
def portBase (p : Nat) : Nat := 0x100 + 0x100 * p

/-- The base of the TXBUF[p] window (20_memory.md R71). -/
def txWindow (p : Nat) : Nat := 0x20000 + 0x10000 * p

/-- The address map R71, for word-aligned byte addresses below 2^20. -/
def busTarget (nport a : Nat) : BusTarget :=
  if a < 0x100 then targetOf (globalReg? a) .glob
  else if a < portBase nport then targetOf (portReg? ((a - 0x100) % 0x100)) (.port ((a - 0x100) / 0x100))
  else if 0xC00 ≤ a ∧ a < 0x1000 then .slot ((a - 0xC00) / 4)
  else if 0x10000 ≤ a ∧ a < 0x20000 then .rxbuf (a - 0x10000)
  else if 0x20000 ≤ a ∧ a < txWindow nport then .txbuf ((a - 0x20000) / 0x10000) ((a - 0x20000) % 0x10000)
  else .unmapped

/-- The byte address of a transaction: `bus_addr` × 4 (10_state.md R21). -/
def Input.byteAddr (inp : Input) : Nat := inp.busAddr.toNat * 4

/-- What a cycle's transaction reaches. -/
def Input.target (inp : Input) (s : State) : BusTarget := busTarget s.params.nport (Input.byteAddr inp)

/-! ## Reads (20_memory.md R73-R76, R81) -/

/-- The value of a global register. -/
def readGlobal (s : State) : GlobalReg → Word
  | .id => idWord
  | .param => paramWord s.params
  | .clkhz => clkhzWord s.params
  | .gstatus => gstatusWord s
  | .devAddr => s.devAddr.setWidth 32
  | .tmult => tmultWord s.tmult
  | .bps => s.bps
  | .chunk => s.chunk.setWidth 32
  | .dispInfo => dispWord s.disp
  | .dispAck => 0
  | .lastFail => lastFailWord s.lastFail
  | .rxfHdr => headerWord s.view.hdr
  | .rxfCode => s.view.code.setWidth 32
  | .rxfKind => rxfKindWord s.view
  | .rxfBodylen => s.view.bodylen.setWidth 32
  | .rxfRcvlen => s.view.rcvlen.setWidth 32
  | .rxfNfrag => s.view.nfrag.setWidth 32
  | .cntRxframe => s.cnt.rxframe
  | .cntRxdrop => s.cnt.rxdrop
  | .cntBroken => s.cnt.broken
  | .cntHfail => s.cnt.hfail
  | .cntBadbundle => s.cnt.badbundle

/-- The value of a port register. -/
def readPort (P : Port) : PortReg → Word
  | .pcmd => 0
  | .pstatus => pstatusWord P
  | .presult => P.result
  | .parg0 => P.parg0
  | .parg1 => P.parg1
  | .txLen => P.txLen
  | .txSender => P.txSender
  | .txTarget => P.txTarget
  | .txCode => P.txCode

/-- The word at offset `o` of a buffer window: lane k is byte o + k, and 0 past 65024 (R75). -/
def windowWord (buf : Nat → Byte) (o : Nat) : Word :=
  let byte := fun k => if o + k < maxPayload then buf (o + k) else 0
  ofLanes (byte 0) (byte 1) (byte 2) (byte 3)

/-- A bus read: `bus_rdata` and `bus_resp` (`true` is ERR). It changes nothing (R81). -/
def busRead (s : State) : BusTarget → Word × Bool
  | .glob r => (readGlobal s r, false)
  | .port p r => match s.ports[p]? with
    | some P => (readPort P r, false)
    | none => (0, true)
  | .slot c => (match s.slot? c with | some x => x.word | none => 0, false)
  | .rxbuf o => (windowWord s.rxByte o, false)
  | .txbuf p o => match s.ports[p]? with
    | some P => (windowWord (P.txByte s.env.epoch p) o, false)
    | none => (0, true)
  | .unmapped => (0, true)

/-! ## Writes -/

/-- Is the whole word strobed (R74)? -/
def fullStrobe (strb : BitVec 4) : Bool := strb == 0b1111

/-- `bus_resp` of a write (R74, R75): ERR for an unmapped address and for a partial strobe on a register. Where the
register is READ-ONLY, or a slot-window word, R74's third bullet says ERR and its fourth OK; the model answers ERR
(DESIGN CHOICE, log entry 16). -/
def writeResp (strb : BitVec 4) : BusTarget → Bool
  | .glob _ => !fullStrobe strb
  | .port _ _ => !fullStrobe strb
  | .slot _ => !fullStrobe strb
  | .rxbuf _ => false
  | .txbuf _ _ => false
  | .unmapped => true

/-- TMULT written by the host (45_host_interface.md R316). -/
def tmultOf (w : Word) : TMult := ⟨w.setWidth 16, w.getLsbD 16⟩

/-- A full write of a global register: R315-R319, and DISP_ACK with nothing pending (42_dispatch.md R212). DISP_ACK with
a dispatch pending is a step of the RX engine (43_engine_rx.md R254). Read-only registers ignore the write (R74). -/
def writeGlobal (w : Word) (s : State) : GlobalReg → State
  | .gstatus => s.writeGstatus w
  | .devAddr => { s with devAddr := w.setWidth 8 }
  | .tmult => { s with tmult := tmultOf w }
  | .bps => if w = 0 then { s with cfgerr := true } else { s with bps := w }
  | .chunk => if w.setWidth 16 = (0 : BitVec 16) then { s with cfgerr := true } else { s with chunk := w.setWidth 16 }
  | .dispAck => if s.disp.pend = true then s else { s with ackdrop := true }
  | .id => s
  | .param => s
  | .clkhz => s
  | .dispInfo => s
  | .lastFail => s
  | .rxfHdr => s
  | .rxfCode => s
  | .rxfKind => s
  | .rxfBodylen => s
  | .rxfRcvlen => s
  | .rxfNfrag => s
  | .cntRxframe => s
  | .cntRxdrop => s
  | .cntBroken => s
  | .cntHfail => s
  | .cntBadbundle => s

/-- A full write of a port register: PCMD issues the command its word names (R310), PSTATUS clears sticky bits (R319),
the operand registers store the whole word (R314), PRESULT ignores it (R74). -/
def writePort (p : Nat) (w : Word) (s : State) : PortReg → Result
  | .pcmd => exec (decodeCommand p w) s
  | .pstatus => .next (s.updPort p fun P => P.writePstatus w)
  | .presult => .next s
  | .parg0 => .next (s.updPort p fun P => { P with parg0 := w })
  | .parg1 => .next (s.updPort p fun P => { P with parg1 := w })
  | .txLen => .next (s.updPort p fun P => { P with txLen := w })
  | .txSender => .next (s.updPort p fun P => { P with txSender := w })
  | .txTarget => .next (s.updPort p fun P => { P with txTarget := w })
  | .txCode => .next (s.updPort p fun P => { P with txCode := w })

/-- Lane `k` of a buffer-window write (20_memory.md R75). -/
def writeLane (o : Nat) (w : Word) (strb : BitVec 4) (k : Nat) (m : Memory) : Memory :=
  if strb.getLsbD k = true ∧ o + k < maxPayload then memWrite m (o + k) (lane k w) else m

/-- The four lanes of a buffer-window write. -/
def writeLanes (o : Nat) (w : Word) (strb : BitVec 4) (m : Memory) : Memory :=
  writeLane o w strb 3 (writeLane o w strb 2 (writeLane o w strb 1 (writeLane o w strb 0 m)))

/-- A TXBUF[p] window write: dropped whole with WDROP while the port is busy (45_host_interface.md R320). -/
def writeTxbuf (p o : Nat) (w : Word) (strb : BitVec 4) (s : State) : State :=
  s.updPort p fun P =>
    if P.pst = .idle then { P with txbuf := writeLanes o w strb P.txbuf } else { P with wdrop := true }

/-- The effect of a bus write on everything but the RX engine (R73-R75). -/
def busWrite (w : Word) (strb : BitVec 4) (s : State) : BusTarget → Result
  | .glob r => .next (if fullStrobe strb = true then writeGlobal w s r else s)
  | .port p r => if fullStrobe strb = true then writePort p w s r else .next s
  | .txbuf p o => .next (writeTxbuf p o w strb s)
  | .slot _ => .next s
  | .rxbuf _ => .next s
  | .unmapped => .next s

/-- The host bus's part of a cycle: the write presented in it, if any. -/
def hostCycle (inp : Input) (s : State) : Result :=
  if inp.busValid = true ∧ inp.busWrite = true then busWrite inp.busWdata inp.busWstrb s (Input.target inp s) else .next s

/-- Is a full write of the given global register presented? -/
def Input.writesGlobal (inp : Input) (s : State) (r : GlobalReg) : Bool :=
  inp.busValid && inp.busWrite && fullStrobe inp.busWstrb && Input.target inp s == .glob r

end Sys2Proof.Machine
end

