-- ==== Sys2Proof/Machine/Receiver.lean ====
section
/-! DEFINITION. The RX engine: the per-cycle rules of the framer (spec 43_engine_rx.md R241-R258), which run the frame
instruction in the cycle that completes a frame, and the acknowledgement of a waiting dispatch (42_dispatch.md R211). -/

namespace Sys2Proof.Machine

/-! ## Header -/

/-- Header complete (R242), with the fourth byte. -/
def headerComplete (b3 : Byte) (s : State) : State :=
  let cur := headerDecode s.rx.hb0 s.rx.hb1 s.rx.hb2 b3
  { s with rx := { s.rx with
      cur := cur, hcnt := 0, bcnt := 0, e := 0
      tmo := timeoutCycles s.params.clkHz cur.len.toNat s.tmult.mult.toNat s.tmult.inf s.bps.toNat
      rs := if s.rx.rs = .hdr then .body else .fbody } }

/-- A header byte taken (R241). -/
def takeHeaderByte (b : Byte) (s : State) : State :=
  match s.rx.hcnt with
  | 0 => { s with rx := { s.rx with hb0 := b, hcnt := 1 } }
  | 1 => { s with rx := { s.rx with hb1 := b, hcnt := 2 } }
  | 2 => { s with rx := { s.rx with hb2 := b, hcnt := 3 } }
  | _ => headerComplete b s

/-- The header cycle (R241): a fault wins over an offered byte (60_exceptions.md R350). -/
def headerCycle (inp : Input) (s : State) : State :=
  if inp.rxFault = true then s.setRs .dead
  else if inp.rxValid = true then takeHeaderByte inp.rxData s
  else s

/-! ## Body -/

/-- Has the body timed out, `tmo != INF and e > tmo` (R243)? -/
def timedOut (s : State) : Bool :=
  match s.rx.tmo with
  | none => false
  | some t => t < s.rx.e

/-- Is the body read over, complete or timed out (R243)? -/
def bodyOver (s : State) : Bool := s.rx.bcnt == s.rx.cur.len.toNat || timedOut s

/-- The reading case of the body cycle (R243), and the fault in it (R255). A byte for an offset past the end of RXBUF,
which no reachable state takes, is a fault of the model (log entry 8). -/
def readBody (inp : Input) (s : State) : Result :=
  if inp.rxFault = true then .next (s.setRs .dead)
  else if inp.rxValid = true then
    if bodyBase s + s.rx.bcnt ≥ maxPayload then .fault (.rxbufRange (bodyBase s + s.rx.bcnt))
    else .next { s with
      rxbuf := memWrite s.rxbuf (bodyBase s + s.rx.bcnt) inp.rxData
      rx := { s.rx with bcnt := s.rx.bcnt + 1, e := s.rx.e + 1 } }
  else .next { s with rx := { s.rx with e := s.rx.e + 1 } }

/-- The dispatch code of the frame whose completion the coming cycle is, if it is one: `cur`'s for a top-level frame
(R245, R246), the first fragment's for a bundle at its last fragment (R250). -/
def completing (s : State) : Option Byte :=
  if bodyOver s = false then none
  else match s.rx.rs with
    | .body => some s.rx.cur.code
    | .fbody => if s.rx.fidx + 1 = s.rx.nfrag then some (bundleCode s) else none
    | _ => none

/-- The classification cycle (R244): the frame instruction of the completing frame runs; a fragment that is not the last
runs none (R248). -/
def classifyCycle (s : State) : Result :=
  match completing s with
  | some c => exec (decodeCode c) s
  | none => endFragment s

/-- The body cycle (R243). -/
def bodyCycle (inp : Input) (s : State) : Result := if bodyOver s = true then classifyCycle s else readBody inp s

/-! ## The engine -/

/-- The engine's own step, by `rs` (R241, R243, R254, R256). -/
def rxStep (inp : Input) (s : State) : Result :=
  match s.rx.rs with
  | .hdr => .next (headerCycle inp s)
  | .fhdr => .next (headerCycle inp s)
  | .body => bodyCycle inp s
  | .fbody => bodyCycle inp s
  | .dwait => .next s
  | .dead => .next s

/-- Is the pending dispatch acknowledged in this cycle (42_dispatch.md R211)? -/
def acked (inp : Input) (s : State) : Bool := s.disp.pend && Input.writesGlobal inp s .dispAck

/-- The RX engine's part of a cycle. -/
def rxCycle (inp : Input) (s : State) : Result :=
  andThen (rxStep inp s) fun r => .next (if acked inp s = true then r.ackDispatch (inp.busWdata.getLsbD 0) else r)

/-- Does the MULT handler write TMULT in this cycle (42_dispatch.md R208)? -/
def multWrites (s : State) : Bool :=
  match completing s, classify s with
  | some c, .next s1 =>
    if s.rx.rs = .fbody then
      match frameAction (bundleFrame c s) (closeFragment s s1) with
      | .setMult _ => true
      | .setInf => true
      | _ => false
    else if c = codeBundle then false
    else match frameAction (topFrame c s) s1 with
      | .setMult _ => true
      | .setInf => true
      | _ => false
  | _, _ => false

/-- `rx_ready` of a cycle without reset (R258). -/
def rxReady (s : State) : Bool :=
  !s.halted && match s.rx.rs with
    | .hdr => true
    | .fhdr => true
    | .body => s.rx.bcnt < s.rx.cur.len.toNat && !timedOut s
    | .fbody => s.rx.bcnt < s.rx.cur.len.toNat && !timedOut s
    | .dwait => false
    | .dead => false

end Sys2Proof.Machine
end

