-- ==== Sys2Proof/Machine/Writer.lean ====
section
/-! DEFINITION. The TX engine: the write lock, the byte stream of a send and the rate-limited writer (spec 41_writer.md,
44_engine_tx.md R283-R286). Its cycle reads the state `pre` the cycle starts in and writes over the state `s` that the
cycle's bus write leaves (00_scope.md R11). -/

namespace Sys2Proof.Machine

/-- The order in which the arbiter looks at the ports: rr+1, rr+2, …, rr (mod NPORT) (R283). -/
def grantOrder (nport rr : Nat) : List Nat := (List.range nport).map fun k => (rr + 1 + k) % nport

/-- The port the arbiter grants, if one waits (R283). -/
def nextGrant (s : State) : Option Nat := (grantOrder s.params.nport s.tx.rr).find? fun p => s.pst p == .waitlock

/-- Stream(p)[i] (R284, R285). -/
def State.streamByte (s : State) (p i : Nat) : Byte :=
  match s.ports[p]? with
  | some P => Machine.streamByte P.sc (P.txByte s.env.epoch p) i
  | none => 0

/-- len(Stream(p)). -/
def State.streamLen (s : State) (p : Nat) : Nat := ((s.ports[p]?).map fun P => Machine.streamLen P.sc).getD 0

/-- The grant cycle (R283). -/
def grantCycle (pre s : State) : State :=
  match nextGrant pre with
  | none => s
  | some p =>
    let tx' : TxEngine := { pre.tx with
      ts := .send
      gp := p
      rr := p
      total := pre.streamLen p
      pos := 0
      csize := pre.chunk.toNat
      cpos := 0 }
    { s with tx := tx' }.updPort p fun P => { P with pst := .active }

/-- The TX engine after the transfer of byte `pos` (41_writer.md R182), at the end of a chunk with the pacing wait set
(R183). -/
def txAdvance (pre : State) : TxEngine :=
  if pre.tx.cpos + 1 = pre.tx.csize ∨ pre.tx.pos + 1 = pre.tx.total then
    { pre.tx with
      ts := .pace
      pos := pre.tx.pos + 1
      cpos := 0
      pr := paceCycles pre.params.clkHz (pre.tx.cpos + 1) pre.bps.toNat }
  else { pre.tx with pos := pre.tx.pos + 1, cpos := pre.tx.cpos + 1 }

/-- The end of a send: the lock is released and the port completes (R185, R186). -/
def endSend (pre s : State) (e : ErrCode) (r : Nat) : State :=
  { s with tx := { pre.tx with ts := .idle } }.updPort pre.tx.gp fun P => P.sendEnds e r

/-- The SEND cycle (R182, R186). No byte to offer is a fault that no reachable state raises (log entry 9). -/
def sendCycle (inp : Input) (pre s : State) : Result :=
  if pre.tx.pos ≥ pre.tx.total then .fault (.txStreamEnd pre.tx.pos)
  else if inp.txFault = true then .next (endSend pre s .txFault pre.tx.pos)
  else if inp.txReady = true then .next { s with tx := txAdvance pre }
  else .next s

/-- The PACE cycle (R184, R185). -/
def paceCycle (pre s : State) : State :=
  if pre.tx.pr = 1 then
    if pre.tx.pos = pre.tx.total then endSend pre s .ok pre.tx.total
    else { s with tx := { pre.tx with ts := .send } }
  else { s with tx := { pre.tx with pr := pre.tx.pr - 1 } }

/-- The TX engine's part of a cycle. -/
def txCycle (inp : Input) (pre s : State) : Result :=
  match pre.tx.ts with
  | .idle => .next (grantCycle pre s)
  | .send => sendCycle inp pre s
  | .pace => .next (paceCycle pre s)

/-- `tx_valid` with `tx_data`: the byte a SEND cycle offers (R182). -/
def txOffer (s : State) : Option Byte :=
  if s.tx.ts = .send then some (s.streamByte s.tx.gp s.tx.pos) else none

end Sys2Proof.Machine
end

