-- ==== Sys2Proof/Machine/Cycle.lean ====
section
/-! DEFINITION. One clock cycle of the whole block (spec 10_state.md R20): every agent's rules fire, all reading the state
the cycle starts in, and the collisions are settled as 20_memory.md R85 and 60_exceptions.md R351 say. -/

namespace Sys2Proof.Machine

/-! ## Inputs and outputs -/

/-- The input of the coming cycle: the next of the model's list, or the environment's free draw (00_scope.md R4, log
entry 1). -/
def nextInput (s : State) : Input :=
  match s.env.inputs with
  | inp :: _ => inp
  | [] => Config.freeInput s.env.cycle

/-- The environment record after a step that drove `out`. -/
def Env.advance (v : Env) (out : Outputs) : Env :=
  { inputs := v.inputs.tail, cycle := v.cycle + 1, epoch := v.epoch, out := out }

/-- The outputs of a cycle without reset (10_state.md R21): all of them functions of the state it starts in and, for the
bus, of the transaction presented. -/
def outputs (inp : Input) (s : State) : Outputs :=
  { rxReady := rxReady s
    tx := if s.halted = true then none else txOffer s
    busRdata := if inp.busValid = true ∧ inp.busWrite = false then some (busRead s (Input.target inp s)).1 else none
    busResp :=
      if inp.busValid = false then none
      else if inp.busWrite = true then some (writeResp inp.busWstrb (Input.target inp s))
      else some (busRead s (Input.target inp s)).2
    dispPend := s.disp.pend
    halted := s.halted
    rxDead := s.rx.rs == .dead }

/-- The outputs of a reset cycle (70_reset_and_hazards.md R370): a read returns 0 with OK; what a write is answered is
not stated, a free value (log entry 11). -/
def resetOutputs (inp : Input) (s : State) : Outputs :=
  { rxReady := false
    tx := none
    busRdata := if inp.busValid = true ∧ inp.busWrite = false then some 0 else none
    busResp :=
      if inp.busValid = false then none
      else if inp.busWrite = true then some (Config.resetWriteResp s.env.cycle)
      else some false
    dispPend := s.disp.pend
    halted := s.halted
    rxDead := s.rx.rs == .dead }

/-! ## The cycle -/

/-- The fields the RX engine owns, taken from its post-state `r` into the state `a` the other agents leave. TMULT is the
MULT handler's where it wrote it, and a host write of the same cycle is lost (20_memory.md R85), whole also beside the
literal None (DEDUCED, log entry 17). -/
def joinRx (pre a r : State) : State :=
  { a with
    rx := r.rx
    rxbuf := r.rxbuf
    view := r.view
    cnt := r.cnt
    disp := r.disp
    lastFail := r.lastFail
    tmult := if multWrites pre = true then r.tmult else a.tmult }

/-- The agents' post-states joined: where EXIT ran, its abort comes last (44_engine_tx.md R288). -/
def joinAgents (pre a r : State) : State := if r.halted = true then (joinRx pre a r).exitAbort else joinRx pre a r

/-- A cycle of a block that is neither in reset nor HALTED: the host bus, the TX engine and the RX engine, each from the
pre-state. -/
def activeCycle (inp : Input) (s : State) : Result :=
  andThen (hostCycle inp s) fun h =>
    andThen (txCycle inp s h) fun a =>
      andThen (rxCycle inp s) fun r => .next (joinAgents s a r)

/-- A reset cycle (70_reset_and_hazards.md R370): the reset state of this instance, whatever the pre-state was. The
buffers' contents are any bytes again (log entry 3). -/
def resetCycle (inp : Input) (s : State) : State :=
  State.resetWith s.params { s.env.advance (resetOutputs inp s) with epoch := s.env.epoch + 1 }

/-- One clock cycle (10_state.md R20). -/
def cycle (s : State) : Result :=
  let inp := nextInput s
  if inp.rst = true then .next (resetCycle inp s)
  else if s.halted = true then .next { s with env := s.env.advance (outputs inp s) }
  else andThen (activeCycle inp s) fun t => .next { t with env := s.env.advance (outputs inp s) }

/-! ## Placing an instruction (log entry 6) -/

/-- The bus transaction that writes `w` to PCMD of port `p`. -/
def pcmdWrite (p : Nat) (w : Word) : Input :=
  { Input.idle with
    busValid := true
    busWrite := true
    busAddr := BitVec.ofNat 18 (portBase p / 4)
    busWdata := w
    busWstrb := 0b1111 }

/-- The state with the command word `w` to be written to port `p`'s PCMD in the next cycle. -/
def placeCommand (p : Nat) (w : Word) (s : State) : State :=
  { s with halted := false, env := { s.env with inputs := pcmdWrite p w :: s.env.inputs } }

/-- The state whose next cycle completes the top-level frame with header `h`, whose body has arrived and is all
zeros, and in which the environment drives nothing. -/
def placeFrame (h : Header) (s : State) : State :=
  { s with
    halted := false
    rx := { s.rx with rs := .body, cur := h, bcnt := h.len.toNat }
    rxbuf := memFill s.rxbuf 0 h.len.toNat 0
    env := { s.env with inputs := Input.idle :: s.env.inputs } }

/-- A word placed where its source puts it. -/
def placeWord (src : Source) (w : Word) (s : State) : State :=
  match src with
  | .pcmd p => placeCommand p w s
  | .wire => placeFrame (Header.ofWord w) s

end Sys2Proof.Machine
end

