-- ==== Sys2Proof/Machine/Step.lean ====
section
/-! DEFINITION. The step of LMPF: one clock cycle; and the state whose next step runs a given word. -/

namespace Sys2Proof.Machine

/-- One step is one clock cycle (spec 10_state.md R20). -/
def step (s : State) : Host.Outcome State Fault Refusal := cycle s

/-- `s` with the word of an opcode-table row placed so that the next step runs it: a command word as the coming cycle's
PCMD write at port 0, a header as that of the frame the coming cycle completes (log entry 6). -/
def State.withFetchWord (s : State) (nbits w : Nat) : State :=
  placeWord (tableSource nbits (BitVec.ofNat 32 w)) (BitVec.ofNat 32 w) s

end Sys2Proof.Machine
end

