-- ==== Sys2Proof/Safety.lean ====
section
/-! DEFINITION. What a safe state of LMPF is, and the terms in which claims speak of what a cycle does: the invariant of
every reachable state (spec 10_state.md, 42_dispatch.md R200, 44_engine_tx.md R287), what the delivery of a frame leaves
(43_engine_rx.md R244-R251), a chosen input, and byte arrival on the wire. -/

namespace Sys2Proof.Machine

/-! ## The invariant -/

/-- May a user slot hold this entry (10_state.md R42)? -/
def Slot.userLegal (nhandler : Nat) : Slot → Bool
  | .placeholder => true
  | .ext h => h.toNat < nhandler
  | .text => false
  | .mult => false
  | .exit => false

/-- The slot table: 255 entries, the reserved ones as at reset (42_dispatch.md R200), the user ones unbound or bound to
an invocable handler (10_state.md R42). -/
structure SlotsOk (s : State) : Prop where
  length : s.slots.length = nslot
  reserved : s.slots.take userLo = (List.range userLo).map resetSlot
  user : ∀ x ∈ s.slots.drop userLo, x.userLegal s.params.nhandler = true

/-- The buffers: every one keeps its canonical form (20_memory.md R70). -/
structure BuffersOk (s : State) : Prop where
  rxbuf : s.rxbuf.wf
  txbuf : ∀ P ∈ s.ports, P.txbuf.wf

/-- Is a fragment read? -/
def RxState.inBundle (x : RxState) : Bool := x == .fhdr || x == .fbody

/-- Is a header read? -/
def RxState.inHeader (x : RxState) : Bool := x == .hdr || x == .fhdr

/-- Is a body read? -/
def RxState.inBody (x : RxState) : Bool := x == .body || x == .fbody

/-- DISP_INFO names the TEXT observer or an invocable user handler while a dispatch is pending (10_state.md R31,
42_dispatch.md R207, R210), and is zero otherwise. -/
def dispLegal (nhandler : Nat) (d : DispInfo) : Bool :=
  if d.pend then
    (d.kind == .text && d.hid == 0 && d.code == 1) ||
      (d.kind == .ext && d.hid.toNat < nhandler && userCode d.code.toNat)
  else d == ⟨false, .placeholder, 0, 0⟩

/-- The RX engine: the ranges of 10_state.md R36, R40, R41, and PEND exactly in DWAIT (42_dispatch.md R207, R210,
R211). -/
structure RxOk (s : State) : Prop where
  hcnt : s.rx.hcnt ≤ 3 ∧ (s.rx.rs.inBody = true → s.rx.hcnt = 0) ∧ (s.rx.rs = .dwait → s.rx.hcnt = 0)
  bcnt : s.rx.bcnt ≤ s.rx.cur.len.toNat
  frags : s.rx.fidx ≤ s.rx.nfrag ∧ s.rx.nfrag ≤ 255
  sums : s.rx.rsum ≤ s.rx.boff ∧ s.rx.boff ≤ 255 * s.rx.fidx
  bundle : s.halted = false → s.rx.rs.inBundle = true → s.rx.fidx < s.rx.nfrag ∧ s.rx.top.code = codeBundle
  pend : s.disp.pend = true ↔ s.rx.rs = .dwait
  disp : dispLegal s.params.nhandler s.disp = true
  view : s.view.rcvlen.toNat ≤ s.view.bodylen.toNat ∧ s.view.bodylen.toNat ≤ maxPayload

/-- The longest payload of a send of a kind (40_codec.md R142). -/
def SendKind.maxLen : SendKind → Nat
  | .msg => maxBody
  | .bundle => maxPayload

/-- The TX engine and the ports: the ranges of 10_state.md R43, R44, and mutual exclusion (44_engine_tx.md R287): the
active port is the granted one while the lock is held, and no port is active while it is free. -/
structure TxOk (s : State) : Prop where
  ports : s.ports.length = s.params.nport
  granted : s.tx.gp < s.params.nport ∧ s.tx.rr < s.params.nport
  config : s.bps ≠ 0 ∧ s.chunk ≠ 0
  csize : 1 ≤ s.tx.csize ∧ s.tx.csize < 2 ^ 16
  free : s.tx.ts = .idle → ∀ p < s.params.nport, s.pst p ≠ .active
  held : s.tx.ts ≠ .idle → ∀ p < s.params.nport, s.pst p = .active ↔ p = s.tx.gp
  stream : s.tx.ts ≠ .idle → s.tx.total = s.streamLen s.tx.gp ∧ s.tx.pos ≤ s.tx.total
  send : s.tx.ts = .send → s.tx.pos < s.tx.total ∧ s.tx.cpos < s.tx.csize
  pace : s.tx.ts = .pace → 1 ≤ s.tx.pr ∧ s.tx.cpos = 0
  captured : ∀ P ∈ s.ports, P.pst ≠ .idle → P.sc.len ≤ P.sc.kind.maxLen

/-- HALTED holds the block with no send in progress (42_dispatch.md R209, 44_engine_tx.md R288). -/
def HaltOk (s : State) : Prop := s.halted = true → s.tx.ts = .idle ∧ ∀ P ∈ s.ports, P.pst = .idle

/-- What holds in every state that a run from reset of a legal instance reaches. -/
structure Inv (s : State) : Prop where
  params : s.params.Legal
  slots : SlotsOk s
  buffers : BuffersOk s
  rx : RxOk s
  tx : TxOk s
  halt : HaltOk s

/-! ## Ports -/

/-- The port after `complete(e, r)` (45_host_interface.md R313). -/
def completedPort (P : Port) (e : ErrCode) (r : Word) : Port := { P with done := true, err := e, result := r }

/-- `s` with port `p` replaced. -/
def State.withPort (s : State) (p : Nat) (P : Port) : State := { s with ports := s.ports.set p P }

/-- The port after its accepted send (44_engine_tx.md R280): the operands captured, the lock waited for. -/
def sendingPort (P : Port) (k : SendKind) : Port :=
  { P with
    sc := ⟨k, P.txLen.toNat, P.txSender.setWidth 8, P.txTarget.setWidth 8, P.txCode.setWidth 8⟩
    pst := .waitlock
    done := false
    err := .ok
    result := 0 }

/-- The port a command of the given port leaves when it is dropped (45_host_interface.md R312). -/
def droppedPort (P : Port) : Port := { P with cmddrop := true }

/-- The port after the EXIT abort (44_engine_tx.md R288), for a busy one `n` of whose bytes were transferred. -/
def abortedPort (P : Port) (n : Nat) : Port :=
  if P.pst = .idle then P
  else { P with pst := .idle, done := true, err := .halted, result := BitVec.ofNat 32 n }

/-! ## Cycles with a chosen bus transaction -/

/-- The state whose coming cycle has the given input. -/
def State.given (s : State) (inp : Input) : State := { s with env := { s.env with inputs := inp :: s.env.inputs } }

/-- A full-word write of `w` at byte address `a`. -/
abbrev WritesWord (inp : Input) (a : Nat) (w : Word) : Prop :=
  inp.busValid = true ∧ inp.busWrite = true ∧ inp.busWstrb = 0b1111 ∧ Input.byteAddr inp = a ∧ inp.busWdata = w

/-- The global registers at their addresses (10_state.md R22), each with the word its fields make (R23-R37). -/
def globalWords (s : State) : List (Nat × Word) :=
  [(0x00, 0x46504D4C),
   (0x04, 0#8 ++ s.params.fill ++ BitVec.ofNat 8 (s.params.nhandler - 1) ++ 0#4 ++ BitVec.ofNat 4 s.params.nport),
   (0x08, BitVec.ofNat 32 s.params.clkHz),
   (0x0C, 0#19 ++ BitVec.ofBool s.disp.pend ++ BitVec.ofNat 4 s.rx.rs.number ++
      (if s.tx.ts = .idle then 0#3 else BitVec.ofNat 3 s.tx.gp) ++ BitVec.ofBool (s.tx.ts != .idle) ++
      BitVec.ofBool s.ackdrop ++ BitVec.ofBool s.cfgerr ++ BitVec.ofBool (s.rx.rs == .dead) ++ BitVec.ofBool s.halted),
   (0x10, 0#24 ++ s.devAddr),
   (0x14, 0#15 ++ BitVec.ofBool s.tmult.inf ++ s.tmult.mult),
   (0x18, s.bps),
   (0x1C, 0#16 ++ s.chunk),
   (0x20, BitVec.ofBool s.disp.pend ++ 0#12 ++ BitVec.ofNat 3 s.disp.kind.number ++ s.disp.hid ++ s.disp.code),
   (0x24, 0),
   (0x28, 0#8 ++ s.lastFail.hid ++ 0#6 ++ BitVec.ofNat 2 s.lastFail.cause.number ++ s.lastFail.code),
   (0x30, s.view.hdr.code ++ s.view.hdr.target ++ s.view.hdr.sender ++ s.view.hdr.len),
   (0x34, 0#24 ++ s.view.code),
   (0x38, 0#22 ++ BitVec.ofBool s.view.mismatch ++ BitVec.ofBool s.view.anyBroken ++ 0#6 ++
      BitVec.ofNat 2 s.view.kind.number),
   (0x3C, 0#15 ++ s.view.bodylen),
   (0x40, 0#15 ++ s.view.rcvlen),
   (0x44, 0#24 ++ s.view.nfrag),
   (0x50, s.cnt.rxframe), (0x54, s.cnt.rxdrop), (0x58, s.cnt.broken), (0x5C, s.cnt.hfail), (0x60, s.cnt.badbundle)]

/-- The registers of a port at their offsets (R22), each with the word its fields make (R38, R39). -/
def portWords (P : Port) : List (Nat × Word) :=
  [(0x00, 0),
   (0x04, 0#16 ++ BitVec.ofNat 8 P.err.number ++ 0#3 ++ BitVec.ofBool P.wdrop ++ BitVec.ofBool P.cmddrop ++
      BitVec.ofBool P.done ++ BitVec.ofBool (P.pst == .waitlock) ++ BitVec.ofBool (P.pst != .idle)),
   (0x08, P.result), (0x0C, P.parg0), (0x10, P.parg1), (0x14, P.txLen), (0x18, P.txSender), (0x1C, P.txTarget),
   (0x20, P.txCode)]

/-- The word of a slot entry: KIND in [2:0], HID in [15:8] (30_encoding.md R115). -/
def slotBits : Slot → Word
  | .placeholder => 0
  | .text => 1
  | .mult => 2
  | .exit => 3
  | .ext h => 0#16 ++ h ++ 4#8

/-- The word at offset `o` of a window of `buf`: byte o + k in lane k, 0 past offset 65024 (20_memory.md R75, R77). -/
def windowBits (buf : Nat → Byte) (o : Nat) : Word :=
  (if o + 3 ≤ 65024 then buf (o + 3) else 0) ++ (if o + 2 ≤ 65024 then buf (o + 2) else 0) ++
    (if o + 1 ≤ 65024 then buf (o + 1) else 0) ++ (if o ≤ 65024 then buf o else 0)

/-- The byte address names a register, a slot-window word or a buffer window (20_memory.md R71). -/
def Mapped (s : State) (a : Nat) : Prop :=
  (∃ w, (a, w) ∈ globalWords s) ∨
    (∃ (p o : Nat) (P : Port) (w : Word), s.ports[p]? = some P ∧ (o, w) ∈ portWords P ∧ a = 0x100 + 0x100 * p + o) ∨
    (0xC00 ≤ a ∧ a < 0x1000) ∨ (0x10000 ≤ a ∧ a < 0x20000) ∨
    (0x20000 ≤ a ∧ a < 0x20000 + 0x10000 * s.ports.length)

/-- A bus read of byte address `a` in a cycle from `s` without reset drives `w` on bus_rdata, and ERR on bus_resp or
not (20_memory.md R73). -/
def ReadsWord (s : State) (a : Nat) (w : Word) (err : Bool) : Prop :=
  ∀ (inp : Input) (t : State), inp.rst = false → inp.busValid = true → inp.busWrite = false → Input.byteAddr inp = a →
    step (s.given inp) = .next t → t.env.out.busRdata = some w ∧ t.env.out.busResp = some err

/-! ## The delivery of a frame -/

/-- The frame the RX engine is completing fits RXBUF, and RXBUF has its canonical form. Every state of the invariant
that completes a frame is ready (40_codec.md R151 "the body fits RXBUF"). -/
structure FrameReady (s : State) : Prop where
  buffer : s.rxbuf.wf
  fits : bodyBase s + s.rx.cur.len.toNat ≤ maxPayload

/-- RXBUF of `t` is that of `s` with the missing bytes of the current body filled (43_engine_rx.md R244): the bytes
stored are those from `bodyBase s + bcnt` to `bodyBase s + L`, none for a whole body; the others stay (log entry 18). -/
def PaddedBody (s t : State) : Prop :=
  ∀ o, memRead t.rxbuf o =
    if bodyBase s + s.rx.bcnt ≤ o ∧ o < bodyBase s + s.rx.cur.len.toNat then some s.params.fill
    else memRead s.rxbuf o

/-- What CNT_BROKEN counts for the current frame. -/
def brokenInc (s : State) : Word := if isBroken s = true then 1 else 0

/-- The target the address filter looks at (R245, R250, R252). -/
def frameTarget (s : State) : Byte := if s.rx.rs = .fbody then s.rx.top.target else s.rx.cur.target

/-- The frame passes the address filter (R252). -/
abbrev FrameAccepted (s : State) : Prop := frameTarget s = s.devAddr ∨ frameTarget s = broadcast

/-- The length of the reported body: the bundle's at a last fragment, else the declared length (R245, R250). -/
def reportedLen (s : State) : Nat := bodyBase s + s.rx.cur.len.toNat

/-- The frame view after the frame with dispatch code `c` (R245, R250, R251). -/
def deliveredView (c : Byte) (s : State) : FrameView :=
  if s.rx.rs = .fbody then
    { hdr := s.rx.top
      code := c
      kind := .bundle
      anyBroken := s.rx.abrk || isBroken s
      mismatch := s.rx.mism || (s.rx.fidx != 0 && s.rx.cur.code != s.rx.fcode)
      bodylen := BitVec.ofNat 17 (s.rx.boff + s.rx.cur.len.toNat)
      rcvlen := BitVec.ofNat 17 (s.rx.rsum + s.rx.bcnt)
      nfrag := BitVec.ofNat 8 s.rx.nfrag }
  else
    { hdr := ⟨s.rx.cur.len, s.rx.cur.sender, s.rx.cur.target, c⟩
      code := c
      kind := if isBroken s = true then .broken else .message
      anyBroken := isBroken s
      mismatch := false
      bodylen := s.rx.cur.len.setWidth 17
      rcvlen := BitVec.ofNat 17 s.rx.bcnt
      nfrag := 0 }

/-- The RX engine after the bookkeeping of the current fragment (R249). -/
def fragmentClosed (s : State) : RxEngine :=
  { s.rx with
    rsum := s.rx.rsum + s.rx.bcnt
    abrk := s.rx.abrk || isBroken s
    fcode := if s.rx.fidx = 0 then s.rx.cur.code else s.rx.fcode
    mism := if s.rx.fidx = 0 then s.rx.mism else s.rx.mism || s.rx.cur.code != s.rx.fcode
    boff := s.rx.boff + s.rx.cur.len.toNat
    fidx := s.rx.fidx + 1 }

/-- What every delivery of a frame with dispatch code `c` leaves, whatever filter and handler then do: the frame view
and its counters, the padded body, the closed fragment, and all that a frame never writes. -/
structure FrameDelivered (c : Byte) (s t : State) : Prop where
  view : t.view = deliveredView c s
  rxframe : t.cnt.rxframe = s.cnt.rxframe + 1
  broken : t.cnt.broken = s.cnt.broken + brokenInc s
  badbundle : t.cnt.badbundle = s.cnt.badbundle
  body : PaddedBody s t
  engine : t.rx = { (if s.rx.rs = .fbody then fragmentClosed s else s.rx) with rs := t.rx.rs }
  params : t.params = s.params
  sticky : t.cfgerr = s.cfgerr ∧ t.ackdrop = s.ackdrop
  config : t.devAddr = s.devAddr ∧ t.bps = s.bps ∧ t.chunk = s.chunk
  slots : t.slots = s.slots
  env : t.env = s.env

/-- The send side is as before. -/
def SameSendSide (s t : State) : Prop := t.halted = s.halted ∧ t.tx = s.tx ∧ t.ports = s.ports

/-- No dispatch fault is reported. -/
def NoReport (s t : State) : Prop := t.lastFail = s.lastFail ∧ t.cnt.hfail = s.cnt.hfail

/-- The dispatch fault report of 42_dispatch.md R225, with no handler id. -/
def Reported (cause : Cause) (code : Byte) (s t : State) : Prop :=
  t.lastFail = ⟨code, cause, 0⟩ ∧ t.cnt.hfail = s.cnt.hfail + 1

/-- The frame passed the filter, so no drop is counted. -/
def NotDropped (s t : State) : Prop := t.cnt.rxdrop = s.cnt.rxdrop

/-! ## Runs of one agent -/

/-- The same block, whatever the model's own record of the environment says. -/
def SameBlock (s t : State) : Prop := { t with env := s.env } = s

/-- The RX engine alone over a list of inputs. -/
def rxRun : List Input → State → Result
  | [], s => .next s
  | inp :: inps, s => andThen (rxStep inp s) (rxRun inps)

/-- The TX engine alone over a list of inputs. -/
def txRun : List Input → State → Result
  | [], s => .next s
  | inp :: inps, s => andThen (txCycle inp s s) (txRun inps)

/-- The inputs offer these bytes, in order, with any gaps between them and no channel fault, and end with the last
byte. -/
def Delivers : List Byte → List Input → Prop
  | [], [] => True
  | b :: bs, inp :: inps =>
    inp.rxFault = false ∧ if inp.rxValid = true then inp.rxData = b ∧ Delivers bs inps else Delivers (b :: bs) inps
  | _, _ => False

/-- Where the body after the header being read goes: RXBUF[0] for a top-level frame, RXBUF[boff] for a fragment
(43_engine_rx.md R242, R243). -/
def nextBase (s : State) : Nat := if s.rx.rs = .fhdr then s.rx.boff else 0

/-- The timeout a header of declared length `L` samples from `s` (43_engine_rx.md R242). -/
def sampledTimeout (s : State) (L : Nat) : Option Nat :=
  timeoutCycles s.params.clkHz L s.tmult.mult.toNat s.tmult.inf s.bps.toNat

/-! ## Reading a wire image (30_encoding.md R101) -/

/-- The frame at the front of a wire image and the bytes after it: the header says how long it is. -/
def readFrame : List Byte → Option ((Header × List Byte) × List Byte)
  | b0 :: b1 :: b2 :: b3 :: rest =>
    if b0.toNat ≤ rest.length then some ((headerDecode b0 b1 b2 b3, rest.take b0.toNat), rest.drop b0.toNat) else none
  | _ => none

/-- The `n` frames a wire image consists of. -/
def readFrames : Nat → List Byte → Option (List (Header × List Byte))
  | 0, [] => some []
  | 0, _ :: _ => none
  | n + 1, bytes =>
    match readFrame bytes with
    | some (f, rest) => (readFrames n rest).map (f :: ·)
    | none => none

/-- A frame all of whose bytes arrived, as a fragment. -/
def wholeFragment (f : Header × List Byte) : Fragment := ⟨f.1, f.2, f.2.length⟩

end Sys2Proof.Machine
end

