-- ==== Sys2Proof/Certificates/Slice0/Obligations.lean ====
section
/-! DEFINITION. The statements for the provers. -/

open Sys2Proof Sys2Proof.Machine

/-! ## Encoding (30_encoding.md, 40_codec.md section 1) -/

/-- Decoding the bytes of a well-formed instruction gives back the instruction, every operand byte and the bytes after
it: no bit of an encoding is dropped (R100, R111, R112). -/
def Obligations.DecodeOfEncodeIsIdentity : Prop :=
  ∀ (i : Instr) (f : HeaderFields) (nport : Nat) (rest : List Byte),
    i.wellFormed nport = true → i.carries f = true →
      decode nport i.source (i.bytes f ++ rest) = .ok ((i, f), rest)

/-- What decodes is well formed and its encoding is the bytes decoded; what does not is too short for a word, or a PCMD
of a port that does not exist. -/
def Obligations.DecodeAnswersOrRejectsExactly : Prop :=
  ∀ (nport : Nat) (src : Source) (bytes : List Byte),
    (∀ i f rest, decode nport src bytes = .ok ((i, f), rest) →
      i.wellFormed nport = true ∧ i.carries f = true ∧ i.source = src ∧ i.bytes f ++ rest = bytes) ∧
    (∀ x, decode nport src bytes = .error x ↔
      (bytes.length < 4 ∧ x = .tooShort bytes.length) ∨
        (4 ≤ bytes.length ∧ ∃ p, src = .pcmd p ∧ nport ≤ p ∧ x = .noSuchPort p))

/-- Words written out from the spec's encodings decode to the instructions they stand for (R100, R111, R112, R113, the
examples of R140, R311 and 42_dispatch.md R209). The first six go through `decodeTableWord`, which has to say where a bare
32-bit word comes from: that 0x1, 0x3 and 0x5 are PCMD words at port 0 there, and no headers of code 0, is the model's
choice (log entry 5). The others name their source. -/
def Obligations.SpecWordsDecodeToTheirInstructions : Prop :=
  decodeTableWord 32 0x00000001 = some (.sendMsg 0) ∧
  decodeTableWord 32 0x00000003 = some (.bind 0) ∧
  decodeTableWord 32 0x00000005 = some (.isUsed 0) ∧
  decodeTableWord 32 0x01FF0102 = some .text ∧
  decodeTableWord 32 0x28000000 = some .user40 ∧
  decodeTableWord 32 0xFF000000 = some .code255 ∧
  decode 2 .wire [0x0A, 0x07, 0x00, 0x28] = .ok ((.user40, ⟨10, 7, 0⟩), []) ∧
  decode 2 .wire [0x00, 0x07, 0x00, 0x05] = .ok ((.exit, ⟨0, 7, 0⟩), []) ∧
  decode 2 .wire [0x01, 0x09, 0x00, 0x02, 0x33] = .ok ((.bundleHeader, ⟨1, 9, 0⟩), [0x33]) ∧
  decode 2 (.pcmd 1) [0x06, 0x01, 0x00, 0x00] = .ok ((.badCommand 1 0x106, ⟨0, 0, 0⟩), [])

/-- R153: a header decodes from its encoding, and every four bytes encode back from their header. -/
def Obligations.HeaderRoundTrip : Prop :=
  (∀ (h : Header) (b0 b1 b2 b3 : Byte), headerEncode h = [b0, b1, b2, b3] → headerDecode b0 b1 b2 b3 = h) ∧
  (∀ b0 b1 b2 b3 : Byte, headerEncode (headerDecode b0 b1 b2 b3) = [b0, b1, b2, b3])

/-! ## A step runs the decoded instruction -/

/-- A cycle whose bus transaction writes a command word to PCMD of port `p` runs the decoded command, then the TX and the
RX engine of the same cycle from the pre-state, and joins them. Where no engine has anything to do, the TX engine
idle with no port waiting and the RX engine reading no body (HDR, FHDR, DWAIT, DEAD), the step's next state is the
command's, but for the model's own environment record. -/
def Obligations.StepRunsTheDecodedCommand : Prop :=
  ∀ (s : State) (p : Nat) (w : Word) (i : Instr) (f : HeaderFields),
    s.params.Legal → s.halted = false →
    decode s.params.nport (.pcmd p) (lanes w) = .ok ((i, f), []) →
      (step (s.given (pcmdWrite p w)) =
        andThen (exec i (s.given (pcmdWrite p w))) fun h =>
          andThen (txCycle (pcmdWrite p w) (s.given (pcmdWrite p w)) h) fun a =>
            andThen (rxCycle (pcmdWrite p w) (s.given (pcmdWrite p w))) fun r =>
              .next { joinAgents (s.given (pcmdWrite p w)) a r with
                env := (s.given (pcmdWrite p w)).env.advance (outputs (pcmdWrite p w) (s.given (pcmdWrite p w))) }) ∧
      (s.rx.rs.inBody = false → s.tx.ts = .idle → nextGrant s = none →
        ∀ t, exec i (s.given (pcmdWrite p w)) = .next t →
          step (s.given (pcmdWrite p w)) =
            .next { t with
              env := (s.given (pcmdWrite p w)).env.advance (outputs (pcmdWrite p w) (s.given (pcmdWrite p w))) })

/-- A cycle that completes a frame runs the instruction its header decodes to: the received header's for a top-level
frame, for a bundle at its last fragment that of a header with the first fragment's action code (43_engine_rx.md R245,
R246, R250). Beside it the TX engine takes its own cycle; no bus transaction is presented. -/
def Obligations.StepRunsTheDecodedFrame : Prop :=
  ∀ (s : State) (inp : Input) (h : Header) (body : List Byte) (i : Instr) (f : HeaderFields),
    s.halted = false → inp.rst = false → inp.busValid = false → bodyOver s = true →
    ((s.rx.rs = .body ∧ h = s.rx.cur) ∨
      (s.rx.rs = .fbody ∧ s.rx.fidx + 1 = s.rx.nfrag ∧
        h.code = if s.rx.fidx = 0 then s.rx.cur.code else s.rx.fcode)) →
    decode s.params.nport .wire (headerEncode h ++ body) = .ok ((i, f), body) →
      step (s.given inp) =
        andThen (txCycle inp (s.given inp) (s.given inp)) fun a =>
          andThen (exec i (s.given inp)) fun r =>
            .next { joinAgents (s.given inp) a r with
              env := (s.given inp).env.advance (outputs inp (s.given inp)) }

/-! ## Host commands (42_dispatch.md section 1, 44_engine_tx.md section 1, 45_host_interface.md section 1) -/

/-- SEND_MSG on an idle port (R280, R142): the byte range is checked before the size; a passed check captures the
operands and waits for the lock. Nothing but the port changes. -/
def Obligations.SendMsgChecksThenWaitsForTheLock : Prop :=
  ∀ (s : State) (p : Nat) (P : Port), s.ports[p]? = some P → P.pst = .idle →
    exec (.sendMsg p) s = .next (s.withPort p
      (if P.txSender.toNat > 255 ∨ P.txTarget.toNat > 255 ∨ P.txCode.toNat > 255 then
        completedPort P .valueOutOfByteRange 0
      else if P.txLen.toNat > 255 then completedPort P .oversizedMessage 0
      else sendingPort P .msg))

/-- SEND_BUNDLE on an idle port (R281, R142): as SEND_MSG, with payloads up to 65025 bytes. -/
def Obligations.SendBundleChecksThenWaitsForTheLock : Prop :=
  ∀ (s : State) (p : Nat) (P : Port), s.ports[p]? = some P → P.pst = .idle →
    exec (.sendBundle p) s = .next (s.withPort p
      (if P.txSender.toNat > 255 ∨ P.txTarget.toNat > 255 ∨ P.txCode.toNat > 255 then
        completedPort P .valueOutOfByteRange 0
      else if P.txLen.toNat > 65025 then completedPort P .oversizedMessage 0
      else sendingPort P .bundle))

/-- BIND on an idle port (R201): its three checks in order, else the slot holds EXT(h). Nothing but the port and the
slot changes. -/
def Obligations.BindChecksThenBindsTheSlot : Prop :=
  ∀ (s : State) (p : Nat) (P : Port), s.ports[p]? = some P → P.pst = .idle →
    exec (.bind p) s = .next
      (if P.parg0.toNat < 32 ∨ P.parg0.toNat > 254 then s.withPort p (completedPort P .slotRange 0)
      else if s.params.nhandler ≤ P.parg1.toNat then s.withPort p (completedPort P .notInvocable 0)
      else if s.slots[P.parg0.toNat]? ≠ some .placeholder then s.withPort p (completedPort P .slotAlreadyUsed 0)
      else { s.withPort p (completedPort P .ok 0) with
        slots := s.slots.set P.parg0.toNat (.ext (P.parg1.setWidth 8)) })

/-- UNBIND on an idle port (R202): its two checks in order, else the slot holds the placeholder again; a pending dispatch
is not cancelled, for nothing but the port and the slot changes. -/
def Obligations.UnbindChecksThenEmptiesTheSlot : Prop :=
  ∀ (s : State) (p : Nat) (P : Port), s.ports[p]? = some P → P.pst = .idle →
    exec (.unbind p) s = .next
      (if P.parg0.toNat < 32 ∨ P.parg0.toNat > 254 then s.withPort p (completedPort P .slotRange 0)
      else if s.slots[P.parg0.toNat]? = some .placeholder then s.withPort p (completedPort P .emptySlot 0)
      else { s.withPort p (completedPort P .ok 0) with slots := s.slots.set P.parg0.toNat .placeholder })

/-- ISUSED on an idle port (R203): a code above 254 has no slot; for every other, reserved ones too, the result says
whether the slot differs from the placeholder. -/
def Obligations.IsUsedReportsTheSlot : Prop :=
  ∀ (s : State) (p : Nat) (P : Port), s.ports[p]? = some P → P.pst = .idle →
    exec (.isUsed p) s = .next (s.withPort p
      (if P.parg0.toNat > 254 then completedPort P .slotRange 0
      else completedPort P .ok (if s.slots[P.parg0.toNat]? ≠ some .placeholder then 1 else 0)))

/-- R311: a PCMD word with an OP outside 1 .. 5 or a nonzero bit in [31:8] decodes to BAD_COMMAND, which completes with
BAD_COMMAND on an idle port, changes nothing else, and is answered OK on the bus. -/
def Obligations.IllegalCommandCompletesWithBadCommand : Prop :=
  ∀ (s : State) (p : Nat) (P : Port) (w : Word), s.ports[p]? = some P → P.pst = .idle →
    (w.extractLsb' 8 24 ≠ 0 ∨ (w.extractLsb' 0 8).toNat < 1 ∨ (w.extractLsb' 0 8).toNat > 5) →
      decodeCommand p w = .badCommand p w ∧
      exec (.badCommand p w) s = .next (s.withPort p (completedPort P .badCommand 0)) ∧
      writeResp 0b1111 (.port p .pcmd) = false

/-- R312: any command word written to PCMD of a busy port sets CMDDROP and changes nothing else: neither the send in
progress nor anything a later completion will write. -/
def Obligations.BusyPortDropsEveryCommand : Prop :=
  ∀ (s : State) (p : Nat) (P : Port) (i : Instr), i.source = .pcmd p → s.ports[p]? = some P → P.pst ≠ .idle →
    exec i s = .next (s.withPort p (droppedPort P))

/-- When an instruction stops, and why: a command where its port does not exist, a frame where its padding would leave
RXBUF; none is ever refused. Both stops are the model's own (log entries 8 and 10), and no reachable state raises
them. -/
def Obligations.ExecStopsExactlyWhere : Prop :=
  ∀ (i : Instr) (s : State),
    (∀ x, exec i s ≠ .refused x) ∧
    (∀ x, exec i s = .fault x ↔
      (∃ p, i.source = .pcmd p ∧ s.ports.length ≤ p ∧ x = .noSuchPort p) ∨
        (i.source = .wire ∧ isBroken s = true ∧ 65025 < bodyBase s + s.rx.cur.len.toNat ∧
          x = .rxbufRange (bodyBase s + s.rx.cur.len.toNat)))

/-- The frame of the commands (R310 "Port independence", R322): a command changes its own port's status and send
context, and BIND and UNBIND the slot their operand names; every other port, the operand registers, every TXBUF, the
engines and all global state stay. -/
def Obligations.CommandTouchesOnlyItsPortAndSlot : Prop :=
  ∀ (i : Instr) (p : Nat) (s t : State), i.source = .pcmd p → exec i s = .next t →
    t = { s with slots := t.slots, ports := t.ports } ∧
    t.ports.length = s.ports.length ∧
    (∀ q, q ≠ p → t.ports[q]? = s.ports[q]?) ∧
    (∀ (P Q : Port), s.ports[p]? = some P → t.ports[p]? = some Q →
      Q = { P with pst := Q.pst, sc := Q.sc, done := Q.done, cmddrop := Q.cmddrop, err := Q.err, result := Q.result } ∧
      (∀ c : Nat, c ≠ P.parg0.toNat ∨ c < 32 → t.slots[c]? = s.slots[c]?)) ∧
    (i ≠ .bind p → i ≠ .unbind p → t.slots = s.slots)

/-! ## Frames (42_dispatch.md section 2, 43_engine_rx.md sections 3-5) -/

/-- A TEXT frame that passes the filter (R207), message, broken message or bundle: DISP_INFO names the text observer and
the RX engine waits. -/
def Obligations.TextFrameWaitsForTheObserver : Prop :=
  ∀ s : State, FrameReady s → FrameAccepted s → s.slots[1]? = some .text →
    ∃ t, exec .text s = .next t ∧ FrameDelivered 1 s t ∧ NotDropped s t ∧ NoReport s t ∧ SameSendSide s t ∧
      t.tmult = s.tmult ∧ t.disp = ⟨true, .text, 0, 1⟩ ∧ t.rx.rs = .dwait

/-- A MULT frame that passes the filter (R208): its reported body, as RXBUF holds it after the cycle, sets the
multiplier, or sets INF and keeps the multiplier, or is reported as rejected; the RX engine reads headers again. -/
def Obligations.MultFrameSetsTheMultiplier : Prop :=
  ∀ s : State, FrameReady s → FrameAccepted s → s.slots[3]? = some .mult →
    ∃ t, exec .mult s = .next t ∧ FrameDelivered 3 s t ∧ NotDropped s t ∧ SameSendSide s t ∧ t.disp = s.disp ∧
      t.rx.rs = .hdr ∧
      ((∃ q, parseMult (t.rxBytes (reportedLen s)) = .value q ∧ t.tmult = ⟨q, false⟩ ∧ NoReport s t) ∨
        (parseMult (t.rxBytes (reportedLen s)) = .inf ∧ t.tmult = ⟨s.tmult.mult, true⟩ ∧ NoReport s t) ∨
        (parseMult (t.rxBytes (reportedLen s)) = .reject ∧ t.tmult = s.tmult ∧ Reported .multLiteral 3 s t))

/-- An EXIT frame that passes the filter (R209, 44_engine_tx.md R288): the block halts, every busy port completes with
HALTED and its count of transferred bytes, the lock is free, and `rs` stays as it is (43 R253). -/
def Obligations.ExitFrameHaltsAndAborts : Prop :=
  ∀ s : State, FrameReady s → FrameAccepted s → s.slots[5]? = some .exit →
    ∃ t, exec .exit s = .next t ∧ FrameDelivered 5 s t ∧ NotDropped s t ∧ NoReport s t ∧ t.tmult = s.tmult ∧
      t.disp = s.disp ∧ t.rx.rs = s.rx.rs ∧ t.halted = true ∧ t.tx = { s.tx with ts := .idle } ∧
      ∀ p : Nat, t.ports[p]? =
        (s.ports[p]?).map fun P => abortedPort P (if p = s.tx.gp ∧ s.tx.ts ≠ .idle then s.tx.pos else 0)

/-- A frame whose code's slot holds the placeholder and that passes the filter does nothing beyond its delivery (R206):
the reserved codes 0, 4, 6 .. 31, unbound user codes 32 .. 254, and code 2 as the dispatch code of a bundle. -/
def Obligations.PlaceholderFrameDoesNothing : Prop :=
  ∀ (i : Instr) (c : Byte) (s : State), i.code? = some c → (c = 2 → s.rx.rs = .fbody) →
    FrameReady s → FrameAccepted s → c ≠ 255 → s.slots[c.toNat]? = some .placeholder →
    ∃ t, exec i s = .next t ∧ FrameDelivered c s t ∧ NotDropped s t ∧ NoReport s t ∧ SameSendSide s t ∧
      t.tmult = s.tmult ∧ t.disp = s.disp ∧ t.rx.rs = .hdr

/-- A frame with a bound user code 32 .. 254 that passes the filter (R210): DISP_INFO names the handler and the code,
and the RX engine waits. -/
def Obligations.BoundUserFrameWaitsForItsHandler : Prop :=
  ∀ (i : Instr) (c h : Byte) (s : State), i.code? = some c → 32 ≤ c.toNat → c.toNat ≤ 254 →
    FrameReady s → FrameAccepted s → s.slots[c.toNat]? = some (.ext h) →
    ∃ t, exec i s = .next t ∧ FrameDelivered c s t ∧ NotDropped s t ∧ NoReport s t ∧ SameSendSide s t ∧
      t.tmult = s.tmult ∧ t.disp = ⟨true, .ext, h, c⟩ ∧ t.rx.rs = .dwait

/-- A frame with code 255 that passes the filter is reported as out of range, and the read loop goes on (R204). -/
def Obligations.Code255FrameIsReported : Prop :=
  ∀ s : State, FrameReady s → FrameAccepted s →
    ∃ t, exec .code255 s = .next t ∧ FrameDelivered 255 s t ∧ NotDropped s t ∧ Reported .codeRange 255 s t ∧
      SameSendSide s t ∧ t.tmult = s.tmult ∧ t.disp = s.disp ∧ t.rx.rs = .hdr

/-- A frame of any code that the address filter refuses is counted and has no other effect beyond its delivery, whatever
its slot holds (43 R252). A top-level frame with code 2 is no such frame: it starts a bundle. -/
def Obligations.FilteredFrameIsDropped : Prop :=
  ∀ (i : Instr) (c : Byte) (s : State), i.code? = some c → (c = 2 → s.rx.rs = .fbody) →
    FrameReady s → ¬ FrameAccepted s →
    ∃ t, exec i s = .next t ∧ FrameDelivered c s t ∧ t.cnt.rxdrop = s.cnt.rxdrop + 1 ∧ NoReport s t ∧
      SameSendSide s t ∧ t.tmult = s.tmult ∧ t.disp = s.disp ∧ t.rx.rs = .hdr

/-- A whole top-level frame with code 2 whose body is a decimal count from 1 to 255 starts a bundle: the assembly state
is set and fragments are read next (43 R246, 30_encoding.md R105). Nothing else changes. -/
def Obligations.BundleHeaderStartsTheBundle : Prop :=
  ∀ s : State, s.rx.rs ≠ .fbody → s.rx.cur.len.toNat ≤ s.rx.bcnt → s.rx.cur.len ≠ 0 →
    (∀ b ∈ s.rxBytes s.rx.cur.len.toNat, 0x30 ≤ b.toNat ∧ b.toNat ≤ 0x39) →
    1 ≤ decimal (s.rxBytes s.rx.cur.len.toNat) → decimal (s.rxBytes s.rx.cur.len.toNat) ≤ 255 →
    exec .bundleHeader s = .next { s with rx := { s.rx with
      top := s.rx.cur, nfrag := decimal (s.rxBytes s.rx.cur.len.toNat), fidx := 0, boff := 0, rsum := 0, abrk := false,
      mism := false, fcode := 0, rs := .fhdr } }

/-- R150, R247: the fragment count a body holds is its decimal value, and there is none exactly for a broken or empty
body, a byte that is no digit, and a value of 0 or above 255; a top-level frame with code 2 that is broken or has no
valid count is discarded: CNT_BADBUNDLE goes up, headers are read next, and there is no frame view update, no filter and
no dispatch. -/
def Obligations.InvalidBundleCountIsDiscarded : Prop :=
  (decimal [] = 0 ∧ ∀ (ds : List Byte) (b : Byte), decimal (ds ++ [b]) = 10 * decimal ds + (b.toNat - 0x30)) ∧
  (∀ (body : List Byte) (broken : Bool),
    (parseCount body broken = none ↔
      broken = true ∨ body = [] ∨ (∃ b ∈ body, b.toNat < 0x30 ∨ 0x39 < b.toNat) ∨ decimal body < 1 ∨
        255 < decimal body) ∧
    (∀ n, parseCount body broken = some n → n = decimal body)) ∧
  ∀ s : State, FrameReady s → s.rx.rs ≠ .fbody →
    (isBroken s = true ∨ parseCount (s.rxBytes s.rx.cur.len.toNat) false = none) →
    ∃ t, exec .bundleHeader s = .next t ∧ PaddedBody s t ∧
      t = { s with
        rxbuf := t.rxbuf
        cnt := { s.cnt with broken := s.cnt.broken + brokenInc s, badbundle := s.cnt.badbundle + 1 }
        rx := { s.rx with rs := .hdr } }

/-- A fragment that is not the last is closed and the next header read: it is neither filtered nor dispatched, whatever
its code (43 R248, R249). -/
def Obligations.FragmentIsClosedAndNotDispatched : Prop :=
  ∀ (s : State) (inp : Input), FrameReady s → s.rx.rs = .fbody → bodyOver s = true → s.rx.fidx + 1 ≠ s.rx.nfrag →
    ∃ t, rxStep inp s = .next t ∧ PaddedBody s t ∧
      t = { s with
        rxbuf := t.rxbuf
        cnt := { s.cnt with broken := s.cnt.broken + brokenInc s }
        rx := { fragmentClosed s with rs := .fhdr } }

/-- The frame of the frame instructions, all 256: whatever the slot table holds (with the reserved slots as at reset),
a frame stores only the filler bytes of its body, and never changes a configuration register, a sticky bit or a slot;
TMULT changes under code 3 alone, the ports and the TX engine under code 5 alone, DISP_INFO under code 1 and the user
codes alone, LAST_FAIL under codes 3 and 255 alone. -/
def Obligations.FrameTouchesOnlyItsOwnState : Prop :=
  ∀ (i : Instr) (c : Byte) (s t : State), i.code? = some c → SlotsOk s → s.rxbuf.wf → exec i s = .next t →
    PaddedBody s t ∧
    t.params = s.params ∧ t.cfgerr = s.cfgerr ∧ t.ackdrop = s.ackdrop ∧ t.devAddr = s.devAddr ∧ t.bps = s.bps ∧
    t.chunk = s.chunk ∧ t.slots = s.slots ∧ t.env = s.env ∧
    (c ≠ 3 → t.tmult = s.tmult) ∧
    (c ≠ 5 → SameSendSide s t) ∧
    (c ≠ 1 → c.toNat < 32 ∨ c = 255 → t.disp = s.disp) ∧
    (c ≠ 3 → c ≠ 255 → NoReport s t)

/-- R211: a DISP_ACK write with a dispatch pending reports a failing user handler, clears DISP_INFO and lets the RX
engine read headers again; the text observer's FAIL bit is ignored. -/
def Obligations.DispAckEndsThePendingDispatch : Prop :=
  ∀ (s : State) (inp : Input) (w : Word), s.disp.pend = true → s.rx.rs = .dwait → WritesWord inp 0x24 w →
    hostCycle inp s = .next s ∧
    rxCycle inp s = .next { s with
      disp := ⟨false, .placeholder, 0, 0⟩
      rx := { s.rx with rs := .hdr }
      lastFail :=
        if s.disp.kind = .ext ∧ w.getLsbD 0 = true then ⟨s.disp.code, .handler, s.disp.hid⟩ else s.lastFail
      cnt := { s.cnt with
        hfail := if s.disp.kind = .ext ∧ w.getLsbD 0 = true then s.cnt.hfail + 1 else s.cnt.hfail } }

/-- R212: a DISP_ACK write with nothing pending sets ACKDROP; nothing else changes, and the RX engine steps as if it had
not been written. -/
def Obligations.StrayDispAckSetsAckdrop : Prop :=
  ∀ (s : State) (inp : Input) (w : Word), s.disp.pend = false → WritesWord inp 0x24 w →
    hostCycle inp s = .next { s with ackdrop := true } ∧ rxCycle inp s = rxStep inp s

/-! ## Whole-machine rules -/

/-- The read task ends only by a channel fault in a cycle that reads: no frame, no handler outcome and no command moves
the RX engine to DEAD (42_dispatch.md R213, 43_engine_rx.md R255). -/
def Obligations.OnlyAChannelFaultEndsTheReadTask : Prop :=
  ∀ s t : State, s.rx.rs ≠ .dead → step s = .next t → t.rx.rs = .dead →
    (nextInput s).rxFault = true ∧ (nextInput s).rst = false ∧ s.halted = false ∧
      (s.rx.rs.inHeader = true ∨ (s.rx.rs.inBody = true ∧ bodyOver s = false))

/-- Only an accepted frame dispatched with code 5 halts the block (42_dispatch.md R209, R385; 60_exceptions.md R347). -/
def Obligations.OnlyAnExitFrameHalts : Prop :=
  ∀ s t : State, SlotsOk s → s.halted = false → step s = .next t → t.halted = true →
    bodyOver s = true ∧ FrameAccepted s ∧
      ((s.rx.rs = .body ∧ s.rx.cur.code = 5) ∨
        (s.rx.rs = .fbody ∧ s.rx.fidx + 1 = s.rx.nfrag ∧ bundleCode s = 5))

/-- R200: slots 0 .. 31 hold their reset entries for ever, for a step keeps them; BIND and UNBIND refuse codes below 32
without touching the table. -/
def Obligations.ReservedSlotsNeverChange : Prop :=
  (∀ s t : State, (∀ c < 32, s.slots[c]? = some (resetSlot c)) → step s = .next t →
    ∀ c < 32, t.slots[c]? = some (resetSlot c)) ∧
  (∀ (s : State) (p : Nat) (P : Port), s.ports[p]? = some P → P.pst = .idle → P.parg0.toNat < 32 →
    exec (.bind p) s = .next (s.withPort p (completedPort P .slotRange 0)) ∧
    exec (.unbind p) s = .next (s.withPort p (completedPort P .slotRange 0)))

/-- A user slot changes only by a reset, or by a BIND or UNBIND word written to the PCMD of an idle port whose PARG0
names it (10_state.md R42). -/
def Obligations.UserSlotsChangeOnlyByBindAndUnbind : Prop :=
  ∀ (s t : State) (c : Nat), step s = .next t → t.slots[c]? ≠ s.slots[c]? →
    (nextInput s).rst = true ∨
      ∃ p P, s.ports[p]? = some P ∧ P.pst = .idle ∧ P.parg0.toNat = c ∧
        (WritesWord (nextInput s) (0x100 + 0x100 * p) 0x03 ∨ WritesWord (nextInput s) (0x100 + 0x100 * p) 0x04)

/-- A cycle in which the EXIT handler runs (44_engine_tx.md R288): every port ends idle and the lock free; a completion
or write failure of the same cycle stands for its port; every other busy port completes with HALTED and the bytes
transferred, counting a transfer of this cycle; a send accepted in the cycle is aborted at 0. -/
def Obligations.ExitCycleEndsEverySend : Prop :=
  ∀ (s t h : State) (inp : Input), Inv s → s.halted = false → completing s = some 5 → FrameAccepted s →
    hostCycle inp s = .next h → activeCycle inp s = .next t →
    t.halted = true ∧ t.tx.ts = .idle ∧
    ∀ (p : Nat) (P : Port), h.ports[p]? = some P →
      t.ports[p]? = some
        (if p = s.tx.gp ∧ s.tx.ts = .send ∧ inp.txFault = true then
          { P with pst := .idle, done := true, err := .txFault, result := BitVec.ofNat 32 s.tx.pos }
        else if p = s.tx.gp ∧ s.tx.ts = .pace ∧ s.tx.pr = 1 ∧ s.tx.pos = s.tx.total then
          { P with pst := .idle, done := true, err := .ok, result := BitVec.ofNat 32 s.tx.total }
        else abortedPort P
          (if p = s.tx.gp ∧ s.tx.ts ≠ .idle then
            s.tx.pos + (if s.tx.ts = .send ∧ inp.txReady = true then 1 else 0)
          else 0))

/-! ## Codec (40_codec.md) -/

/-- R147: the fragment count of a payload is at most 255 exactly up to 65025 bytes; a longer one fails the header check
with OVERSIZED_MESSAGE. -/
def Obligations.FragmentCountLimit : Prop :=
  (∀ len : Nat, fragmentCount len ≤ 255 ↔ len ≤ 65025) ∧
  (∀ len s t c : Nat, 65026 ≤ len → s ≤ 255 → t ≤ 255 → c ≤ 255 →
    256 ≤ fragmentCount len ∧ headerCheck len s t c 65025 = .oversizedMessage)

/-- R156: on an idle port with byte operands, SEND_MSG accepts 255 bytes and refuses 256; SEND_BUNDLE accepts 65025, in
255 fragments, and refuses 65026, which would take 256. -/
def Obligations.SendSizeBoundaries : Prop :=
  ∀ (s : State) (p : Nat) (P : Port), s.ports[p]? = some P → P.pst = .idle →
    P.txSender.toNat ≤ 255 → P.txTarget.toNat ≤ 255 → P.txCode.toNat ≤ 255 →
    (P.txLen = 255 → exec (.sendMsg p) s = .next (s.withPort p (sendingPort P .msg))) ∧
    (P.txLen = 256 → exec (.sendMsg p) s = .next (s.withPort p (completedPort P .oversizedMessage 0))) ∧
    (P.txLen = 65025 → exec (.sendBundle p) s = .next (s.withPort p (sendingPort P .bundle))) ∧
    (P.txLen = 65026 → exec (.sendBundle p) s = .next (s.withPort p (completedPort P .oversizedMessage 0))) ∧
    fragmentCount 65025 = 255 ∧ fragmentCount 65026 = 256

/-- R155: decoding the encoding of a bundle frame by frame and reassembling it gives back the payload and the code, with
no mismatch. -/
def Obligations.BundleReassemblesToItsPayload : Prop :=
  ∀ (s t c : Byte) (payload : List Byte), payload.length ≤ 65025 →
    ∃ hm d f fs, readFrames (fragmentCount payload.length + 1) (bundleEncode s t c payload) = some ((hm, d) :: f :: fs) ∧
      parseCount d false = some (fs.length + 1) ∧
      bundleFromParts hm (wholeFragment f) (fs.map wholeFragment) =
        { body := payload, bodylen := payload.length, rcvlen := payload.length,
          hdr := ⟨BitVec.ofNat 8 d.length, s, t, 2⟩, code := c, anyBroken := false, mismatch := false }

/-- R284, R285: the byte stream of a send, indexed as the TX engine reads it, is the encoding of its message or bundle,
byte for byte, and at most 66052 bytes long. -/
def Obligations.StreamIsTheEncodedFrame : Prop :=
  ∀ (sc : SendCtx) (buf : Nat → Byte), sc.len ≤ sc.kind.maxLen →
    (List.range (streamLen sc)).map (streamByte sc buf) =
      (match sc.kind with
        | .msg => messageEncode sc.sender sc.target sc.code ((List.range sc.len).map buf)
        | .bundle => bundleEncode sc.sender sc.target sc.code ((List.range sc.len).map buf)) ∧
    streamLen sc ≤ 66052 ∧ (sc.kind = .msg → streamLen sc = 4 + sc.len)

/-- A fragment count is sent in 1 to 3 ASCII digits and read back, also behind leading zeros (R104, R105, R148, R150). -/
def Obligations.FragmentCountRoundTrip : Prop :=
  ∀ n k : Nat, 1 ≤ n → n ≤ 255 →
    parseCount (List.replicate k 0x30 ++ formatCount n) false = some n ∧
    (formatCount n).length = (if n ≤ 9 then 1 else if n ≤ 99 then 2 else 3)

/-- R152: the multiplier literal. "None" is INF; digits with at most one point, at least one digit and an integer part
up to 255 give I * 256 + (N * 256) div 10^k; everything else is rejected. -/
def Obligations.MultiplierLiteralGrammar : Prop :=
  ∀ body : List Byte,
    (parseMult body = .inf ↔ body = [0x4E, 0x6F, 0x6E, 0x65]) ∧
    (∀ q : BitVec 16, parseMult body = .value q ↔
      ∃ ip fr : List Byte, (∀ b ∈ ip, 0x30 ≤ b.toNat ∧ b.toNat ≤ 0x39) ∧ (∀ b ∈ fr, 0x30 ≤ b.toNat ∧ b.toNat ≤ 0x39) ∧
        ((body = ip ∧ fr = [] ∧ ip ≠ []) ∨ (body = ip ++ 0x2E :: fr ∧ ¬ (ip = [] ∧ fr = []))) ∧
        decimal ip ≤ 255 ∧ q.toNat = decimal ip * 256 + decimal fr * 256 / 10 ^ fr.length) ∧
    (parseMult body = .reject ↔ parseMult body ≠ .inf ∧ ∀ q, parseMult body ≠ .value q)

/-- R170, R171: the body timeout is none under INF, and else the least number of cycles not shorter than the exact
L * 8 * MULT * CLK_HZ / (BPS * 256), whose numerator is below 2^60; a zero length or multiplier gives 0. The pacing wait
is the least number of cycles not shorter than 8 * n * CLK_HZ / BPS, and at least one. -/
def Obligations.TimeoutAndPacingAreCeilings : Prop :=
  (∀ clk len mult bps : Nat, 1 ≤ bps →
    timeoutCycles clk len mult true bps = none ∧
    (∃ q, timeoutCycles clk len mult false bps = some q ∧ len * 8 * mult * clk ≤ q * (bps * 256) ∧
      (∀ q', len * 8 * mult * clk ≤ q' * (bps * 256) → q ≤ q') ∧
      (len = 0 ∨ mult = 0 → q = 0)) ∧
    (len ≤ 255 → mult ≤ 65535 → clk < 2 ^ 32 → len * 8 * mult * clk < 2 ^ 60)) ∧
  (∀ clk n bps : Nat, 1 ≤ clk → 1 ≤ n → 1 ≤ bps →
    8 * n * clk ≤ paceCycles clk n bps * bps ∧
    (∀ q, 8 * n * clk ≤ q * bps → paceCycles clk n bps ≤ q) ∧
    1 ≤ paceCycles clk n bps)

/-- What RXBUF holds of the current body after its classification is the reported body of Classify, of the declared
length, and CNT_BROKEN counts it as Classify says (40 R144, R145; 43 R244). -/
def Obligations.RxbufHoldsTheClassifiedBody : Prop :=
  ∀ s t : State, s.rxbuf.wf → s.rx.bcnt ≤ s.rx.cur.len.toNat → classify s = .next t →
    (List.range s.rx.cur.len.toNat).map (fun k => t.rxByte (bodyBase s + k)) =
      (classifyBody s.params.fill s.rx.cur.len.toNat
        ((List.range s.rx.bcnt).map fun k => s.rxByte (bodyBase s + k))).2 ∧
    t.cnt.broken = s.cnt.broken +
      (if (classifyBody s.params.fill s.rx.cur.len.toNat
        ((List.range s.rx.bcnt).map fun k => s.rxByte (bodyBase s + k))).1 = .broken then 1 else 0)

/-! ## The receiver (43_engine_rx.md) -/

/-- R154 with R241 to R244: the reading of a message, and of a fragment (FHDR). Four header bytes with any gaps, then body
cycles that bring the bytes `got` of the `L` declared, in order with any gaps, none past the last cycle of the timeout.
After them the header is in `cur`, the timeout is what R242 samples from the state before, `e` counts the body cycles, the
bytes stand in RXBUF from the body's base on, and nothing else of the block has changed. The body read is over exactly
where all L bytes came or q + 1 cycles passed for a timeout of q; then the classification reports `got` and the filler up
to L, whole as MESSAGE, short as BROKEN. That the body fits RXBUF is so in every state of the invariant. -/
def Obligations.MessageIsReceivedWhole : Prop :=
  ∀ (s : State) (L : Nat) (sender target code : Byte) (got : List Byte) (hins bins gaps : List Input),
    s.rx.rs.inHeader = true → s.rx.hcnt = 0 → s.rxbuf.wf → L ≤ 255 → got.length ≤ L → nextBase s + L ≤ 65025 →
    Delivers (headerEncode ⟨BitVec.ofNat 8 L, sender, target, code⟩) hins → Delivers got bins →
    (∀ inp ∈ gaps, inp.rxValid = false ∧ inp.rxFault = false) → (got.length = L → gaps = []) →
    (∀ q, sampledTimeout s L = some q → bins.length + gaps.length ≤ q + 1) →
    ∃ t, rxRun (hins ++ bins ++ gaps) s = .next t ∧
      t = { s with
        rxbuf := t.rxbuf
        rx := { s.rx with
          rs := if s.rx.rs = .hdr then .body else .fbody
          hb0 := BitVec.ofNat 8 L, hb1 := sender, hb2 := target, hcnt := 0
          cur := ⟨BitVec.ofNat 8 L, sender, target, code⟩
          bcnt := got.length, e := bins.length + gaps.length, tmo := sampledTimeout s L } } ∧
      (∀ o, memRead t.rxbuf o =
        if nextBase s ≤ o ∧ o < nextBase s + got.length then got[o - nextBase s]? else memRead s.rxbuf o) ∧
      (bodyOver t = true ↔
        got.length = L ∨ ∃ q, sampledTimeout s L = some q ∧ bins.length + gaps.length = q + 1) ∧
      (got.length = L → classify t = .next t) ∧
      (topFrame code t).kind = (if got.length = L then .message else .broken) ∧
      (topFrame code t).hdr = ⟨BitVec.ofNat 8 L, sender, target, code⟩ ∧
      ∃ t', classify t = .next t' ∧
        t'.cnt.broken = s.cnt.broken + (if got.length = L then 0 else 1) ∧
        (List.range L).map (fun k => t'.rxByte (nextBase s + k)) =
          got ++ List.replicate (L - got.length) s.params.fill

/-- R255, R350: in a header cycle a channel fault wins over an offered byte and ends the read task with nothing else
changed; in a body cycle completeness is tested before the timeout and the timeout before the fault, so neither a fault
nor a byte matters once the body read is over; in DWAIT and in DEAD nothing is sampled. -/
def Obligations.ChannelFaultPriorities : Prop :=
  ∀ (s : State) (inp : Input),
    (s.rx.rs.inHeader = true → inp.rxFault = true →
      rxStep inp s = .next { s with rx := { s.rx with rs := .dead } }) ∧
    (s.rx.rs.inBody = true → s.rx.bcnt ≠ s.rx.cur.len.toNat → (∀ q, s.rx.tmo = some q → s.rx.e ≤ q) →
      inp.rxFault = true → rxStep inp s = .next { s with rx := { s.rx with rs := .dead } }) ∧
    (s.rx.rs.inBody = true → (s.rx.bcnt = s.rx.cur.len.toNat ∨ ∃ q, s.rx.tmo = some q ∧ q < s.rx.e) →
      rxStep inp s = classifyCycle s) ∧
    (s.rx.rs = .dwait ∨ s.rx.rs = .dead → rxStep inp s = .next s)

/-- R258: when `rx_ready` is 1. -/
def Obligations.RxReadyRule : Prop :=
  ∀ s t : State, step s = .next t →
    (t.env.out.rxReady = true ↔
      (nextInput s).rst = false ∧ s.halted = false ∧
        (s.rx.rs = .hdr ∨ s.rx.rs = .fhdr ∨
          ((s.rx.rs = .body ∨ s.rx.rs = .fbody) ∧ s.rx.bcnt < s.rx.cur.len.toNat ∧
            (s.rx.tmo = none ∨ ∃ q, s.rx.tmo = some q ∧ s.rx.e ≤ q))))

/-! ## The transmitter (41_writer.md, 44_engine_tx.md) -/

/-- The grant (44 R283): with the lock free, the first waiting port after the last granted one takes it, with the chunk
size and stream length of the pre-state, and no byte is offered; with no port waiting nothing happens. -/
def Obligations.GrantIsRoundRobin : Prop :=
  ∀ (s h : State) (inp : Input), s.tx.ts = .idle → h.tx = s.tx →
    txOffer s = none ∧
    ((∀ p < s.params.nport, s.pst p ≠ .waitlock) → txCycle inp s h = .next h) ∧
    (∀ k < s.params.nport, (∀ j < k, s.pst ((s.tx.rr + 1 + j) % s.params.nport) ≠ .waitlock) →
      s.pst ((s.tx.rr + 1 + k) % s.params.nport) = .waitlock →
      ∀ P, h.ports[(s.tx.rr + 1 + k) % s.params.nport]? = some P →
        txCycle inp s h = .next { h with
          tx := { s.tx with
            ts := .send
            gp := (s.tx.rr + 1 + k) % s.params.nport
            rr := (s.tx.rr + 1 + k) % s.params.nport
            total := s.streamLen ((s.tx.rr + 1 + k) % s.params.nport)
            pos := 0
            csize := s.chunk.toNat
            cpos := 0 }
          ports := h.ports.set ((s.tx.rr + 1 + k) % s.params.nport) { P with pst := .active } })

/-- The SEND cycle (41 R182, R183, R186): it offers byte `pos` of the granted port's stream; a write failure ends the
send with the count so far and frees the lock; a transfer moves on by one byte and, at the end of a chunk or of the
stream, starts the pacing wait; otherwise nothing changes. -/
def Obligations.SendCycleMovesOneByte : Prop :=
  ∀ (s h : State) (inp : Input) (P : Port), s.tx.ts = .send → s.tx.pos < s.tx.total → h.tx = s.tx →
    h.ports[s.tx.gp]? = some P →
    txOffer s = some (s.streamByte s.tx.gp s.tx.pos) ∧
    txCycle inp s h = .next
      (if inp.txFault = true then
        { h with
          tx := { s.tx with ts := .idle }
          ports := h.ports.set s.tx.gp
            { P with pst := .idle, done := true, err := .txFault, result := BitVec.ofNat 32 s.tx.pos } }
      else if inp.txReady = false then h
      else if s.tx.cpos + 1 = s.tx.csize ∨ s.tx.pos + 1 = s.tx.total then
        { h with tx := { s.tx with
          ts := .pace, pos := s.tx.pos + 1, cpos := 0
          pr := paceCycles s.params.clkHz (s.tx.cpos + 1) s.bps.toNat } }
      else { h with tx := { s.tx with pos := s.tx.pos + 1, cpos := s.tx.cpos + 1 } })

/-- R184, R185: a pacing wait of `n` cycles lasts exactly `n` cycles whatever the channel does, and offers no byte; after
it the next chunk is sent, or, after the last chunk, the send completes with the number of bytes of its stream and the
lock is free. -/
def Obligations.PacingLastsItsCount : Prop :=
  ∀ (s : State) (P : Port) (inps : List Input), s.tx.ts = .pace → s.ports[s.tx.gp]? = some P →
    txOffer s = none ∧
    (inps.length < s.tx.pr → txRun inps s = .next { s with tx := { s.tx with pr := s.tx.pr - inps.length } }) ∧
    (1 ≤ s.tx.pr → inps.length = s.tx.pr → s.tx.pos ≠ s.tx.total →
      txRun inps s = .next { s with tx := { s.tx with pr := 1, ts := .send } }) ∧
    (1 ≤ s.tx.pr → inps.length = s.tx.pr → s.tx.pos = s.tx.total →
      txRun inps s = .next { s with
        tx := { s.tx with pr := 1, ts := .idle }
        ports := s.ports.set s.tx.gp
          { P with pst := .idle, done := true, err := .ok, result := BitVec.ofNat 32 s.tx.total } })

/-- R188: with a channel that accepts every byte and never fails, a granted send of `total` bytes in chunks of `csize`
takes `total` cycles and the pacing wait of every chunk: it holds the lock in every cycle before, and then completes
with all its bytes counted. -/
def Obligations.SendTakesItsTransfersAndWaits : Prop :=
  ∀ (s : State) (P : Port) (inps : List Input),
    s.tx.ts = .send → s.tx.pos = 0 → s.tx.cpos = 0 → 1 ≤ s.tx.csize → 1 ≤ s.tx.total → 1 ≤ s.params.clkHz → s.bps ≠ 0 →
    s.ports[s.tx.gp]? = some P → (∀ inp ∈ inps, inp.txReady = true ∧ inp.txFault = false) →
    (inps.length <
        s.tx.total + s.tx.total / s.tx.csize * paceCycles s.params.clkHz s.tx.csize s.bps.toNat +
          (if s.tx.total % s.tx.csize = 0 then 0
            else paceCycles s.params.clkHz (s.tx.total % s.tx.csize) s.bps.toNat) →
      ∃ t, txRun inps s = .next t ∧ t.tx.ts ≠ .idle ∧ t.ports = s.ports) ∧
    (inps.length =
        s.tx.total + s.tx.total / s.tx.csize * paceCycles s.params.clkHz s.tx.csize s.bps.toNat +
          (if s.tx.total % s.tx.csize = 0 then 0
            else paceCycles s.params.clkHz (s.tx.total % s.tx.csize) s.bps.toNat) →
      ∃ t, txRun inps s = .next t ∧ t.tx.ts = .idle ∧
        t.ports = s.ports.set s.tx.gp
          { P with pst := .idle, done := true, err := .ok, result := BitVec.ofNat 32 s.tx.total })

/-! ## The host bus (20_memory.md, 45_host_interface.md section 2) -/

/-- TXBUF windows (20_memory.md R75, R320): a write to the window of an idle port stores the strobed lanes whose byte
exists and leaves every other byte; a write to a busy port's window stores nothing and sets WDROP. Both are answered OK,
and every other port is as before. -/
def Obligations.TxbufWindowWrites : Prop :=
  ∀ (s : State) (inp : Input) (p o : Nat) (P : Port),
    inp.busValid = true → inp.busWrite = true → Input.byteAddr inp = 0x20000 + 0x10000 * p + o → o < 0x10000 →
    s.params.Legal → p < s.params.nport → s.ports[p]? = some P → P.txbuf.wf →
    writeResp inp.busWstrb (Input.target inp s) = false ∧
    ∃ Q, hostCycle inp s = .next (s.withPort p Q) ∧
      (P.pst ≠ .idle → Q = { P with wdrop := true }) ∧
      (P.pst = .idle → Q = { P with txbuf := Q.txbuf } ∧ Q.txbuf.wf ∧
        ∀ a, memRead Q.txbuf a =
          if o ≤ a ∧ a < o + 4 ∧ a ≤ 65024 ∧ inp.busWstrb.getLsbD (a - o) = true then some (lane (a - o) inp.busWdata)
          else memRead P.txbuf a)

/-- Configuration writes (45 R315-R318): DEV_ADDR takes the low byte, TMULT its two fields, BPS and CHUNK any value but
zero; a zero leaves the register and sets CFGERR. Nothing else changes. -/
def Obligations.ConfigurationWrites : Prop :=
  ∀ (s : State) (inp : Input) (w : Word),
    (WritesWord inp 0x10 w → hostCycle inp s = .next { s with devAddr := w.extractLsb' 0 8 }) ∧
    (WritesWord inp 0x14 w →
      hostCycle inp s = .next { s with tmult := ⟨w.extractLsb' 0 16, w.getLsbD 16⟩ }) ∧
    (WritesWord inp 0x18 w →
      hostCycle inp s = .next (if w = 0 then { s with cfgerr := true } else { s with bps := w })) ∧
    (WritesWord inp 0x1C w →
      hostCycle inp s = .next
        (if w.extractLsb' 0 16 = 0 then { s with cfgerr := true } else { s with chunk := w.extractLsb' 0 16 }))

/-- Port register writes (45 R314, R319): an operand register holds the whole word, busy or not, and PSTATUS clears the
sticky bits that are written 1; GSTATUS likewise. Nothing else changes. -/
def Obligations.PortRegisterAndStickyBitWrites : Prop :=
  ∀ (s : State) (inp : Input) (w : Word) (p : Nat) (P : Port),
    p < s.params.nport → s.params.Legal → s.ports[p]? = some P →
    (WritesWord inp (0x100 + 0x100 * p + 0x0C) w → hostCycle inp s = .next (s.withPort p { P with parg0 := w })) ∧
    (WritesWord inp (0x100 + 0x100 * p + 0x10) w → hostCycle inp s = .next (s.withPort p { P with parg1 := w })) ∧
    (WritesWord inp (0x100 + 0x100 * p + 0x14) w → hostCycle inp s = .next (s.withPort p { P with txLen := w })) ∧
    (WritesWord inp (0x100 + 0x100 * p + 0x18) w → hostCycle inp s = .next (s.withPort p { P with txSender := w })) ∧
    (WritesWord inp (0x100 + 0x100 * p + 0x1C) w → hostCycle inp s = .next (s.withPort p { P with txTarget := w })) ∧
    (WritesWord inp (0x100 + 0x100 * p + 0x20) w → hostCycle inp s = .next (s.withPort p { P with txCode := w })) ∧
    (WritesWord inp (0x100 + 0x100 * p + 0x04) w →
      hostCycle inp s = .next (s.withPort p { P with
        cmddrop := P.cmddrop && !w.getLsbD 3, wdrop := P.wdrop && !w.getLsbD 4 })) ∧
    (WritesWord inp 0x0C w →
      hostCycle inp s = .next { s with cfgerr := s.cfgerr && !w.getLsbD 2, ackdrop := s.ackdrop && !w.getLsbD 3 })

/-- Writes without effect (20_memory.md R71, R74, R75): to an address the map does not name, with a partial strobe to a
register, to a read-only register or the slot window, and with any strobe to the RXBUF window; the first two are answered
ERR, the others OK, and the RX engine steps as without them. A read of an unmapped address returns 0 with ERR, and every
other read is answered OK. That a partial strobe wins where the register is READ-ONLY, a slot-window word among them, is
the model's choice, since R74 says ERR for any register and OK for a read-only one (log entry 16). -/
def Obligations.IneffectiveBusAccesses : Prop :=
  ∀ (s : State) (inp : Input), s.ports.length = s.params.nport →
    (s.params.Legal → (Input.target inp s = .unmapped ↔ ¬ Mapped s (Input.byteAddr inp))) ∧
    (Input.target inp s = .unmapped →
      hostCycle inp s = .next s ∧ rxCycle inp s = rxStep inp s ∧ writeResp inp.busWstrb .unmapped = true ∧
        busRead s .unmapped = (0, true)) ∧
    ((∃ r, Input.target inp s = .glob r) ∨ (∃ p r, Input.target inp s = .port p r) ∨
        (∃ c, Input.target inp s = .slot c) →
      inp.busWstrb ≠ 0b1111 →
        hostCycle inp s = .next s ∧ rxCycle inp s = rxStep inp s ∧
          writeResp inp.busWstrb (Input.target inp s) = true) ∧
    ((∃ c, Input.target inp s = .slot c) ∨ (∃ p, Input.target inp s = .port p .presult) ∨
        (∃ r, Input.target inp s = .glob r ∧ r ∉ [GlobalReg.gstatus, .devAddr, .tmult, .bps, .chunk, .dispAck]) →
      inp.busWstrb = 0b1111 →
        hostCycle inp s = .next s ∧ rxCycle inp s = rxStep inp s ∧
          writeResp inp.busWstrb (Input.target inp s) = false) ∧
    ((∃ o, Input.target inp s = .rxbuf o) →
      hostCycle inp s = .next s ∧ rxCycle inp s = rxStep inp s ∧
        writeResp inp.busWstrb (Input.target inp s) = false) ∧
    (Input.target inp s ≠ .unmapped → (busRead s (Input.target inp s)).2 = false)

/-- R81: a cycle with a bus read leaves the block as the same cycle without a bus transaction does. -/
def Obligations.ReadsHaveNoSideEffect : Prop :=
  ∀ (s t : State) (inp : Input), inp.busWrite = false → step (s.given inp) = .next t →
    ∃ t', step (s.given { inp with busValid := false }) = .next t' ∧ SameBlock t t'

/-- What every bus read returns (10_state.md R22-R39, 30_encoding.md R115-R117, 20_memory.md R71-R77): the numbers of the
names; at each register's address the word its fields make; the slot window, with 0 at c = 255; the buffer windows, byte
o + k in lane k, 0 past 65024; 0 with ERR where the map names nothing. What an RXBUF byte at or beyond RXF_BODYLEN is
(93_implementation_defined.md S4) is in `State.rxByte` the model's choice (log entries 3 and 18). -/
def Obligations.StatusWordsHaveTheSpecsFields : Prop :=
  [RxState.hdr, .body, .fhdr, .fbody, .dwait, .dead].map RxState.number = [0, 1, 2, 3, 4, 5] ∧
  [SlotKind.placeholder, .text, .mult, .exit, .ext].map SlotKind.number = [0, 1, 2, 3, 4] ∧
  [ErrCode.ok, .valueNotInteger, .valueOutOfByteRange, .oversizedMessage, .slotRange, .notInvocable, .slotAlreadyUsed,
    .emptySlot, .txFault, .halted, .badCommand].map ErrCode.number =
      [0x00, 0x01, 0x02, 0x03, 0x04, 0x05, 0x06, 0x07, 0x08, 0x09, 0x0A] ∧
  [Cause.none, .handler, .multLiteral, .codeRange].map Cause.number = [0, 1, 2, 3] ∧
  [FrameKind.none, .message, .broken, .bundle].map FrameKind.number = [0, 1, 2, 3] ∧
  ∀ s : State, s.params.Legal → s.ports.length = s.params.nport →
    (∀ x ∈ globalWords s, ReadsWord s x.1 x.2 false) ∧
    (∀ (p : Nat) (P : Port), s.ports[p]? = some P →
      (∀ x ∈ portWords P, ReadsWord s (0x100 + 0x100 * p + x.1) x.2 false) ∧
      (∀ o < 0x10000, o % 4 = 0 →
        ReadsWord s (0x20000 + 0x10000 * p + o) (windowBits (P.txByte s.env.epoch p) o) false)) ∧
    (∀ c < 255, ∀ x, s.slots[c]? = some x → ReadsWord s (0xC00 + 4 * c) (slotBits x) false) ∧
    ReadsWord s (0xC00 + 4 * 255) 0 false ∧
    (∀ o < 0x10000, o % 4 = 0 → ReadsWord s (0x10000 + o) (windowBits s.rxByte o) false) ∧
    (∀ a, ¬ Mapped s a → ReadsWord s a 0 true)

/-- Where the MULT handler writes TMULT in a cycle, a host write of TMULT in the same cycle is lost; where no MULT frame
is accepted in it, or its literal is rejected, the host's value stands (20_memory.md R85 (a), 42_dispatch.md R208, 45
R316). That the host's write is lost whole also beside the literal None, so that MULT keeps its value of before and INF
is set, be it already set or not, is the model's choice (log entry 17). -/
def Obligations.MultHandlerWinsOverTheHost : Prop :=
  ∀ (s t r : State) (inp : Input) (w : Word), SlotsOk s → s.halted = false → WritesWord inp 0x14 w →
    activeCycle inp s = .next t → rxStep inp s = .next r →
    (r.tmult ≠ s.tmult → t.tmult = r.tmult) ∧
    (completing s = some 3 → FrameAccepted s →
      (∀ q, parseMult (r.rxBytes (reportedLen s)) = .value q → t.tmult = ⟨q, false⟩) ∧
      (parseMult (r.rxBytes (reportedLen s)) = .inf → t.tmult = ⟨s.tmult.mult, true⟩) ∧
      (parseMult (r.rxBytes (reportedLen s)) = .reject → t.tmult = ⟨w.extractLsb' 0 16, w.getLsbD 16⟩)) ∧
    (completing s ≠ some 3 ∨ ¬ FrameAccepted s → t.tmult = ⟨w.extractLsb' 0 16, w.getLsbD 16⟩)

/-! ## Reset and HALTED -/

/-- R370 with the table of 10_state.md R49: what a reset cycle leaves, whatever the state before, and what it drives.
Nothing is said of `hb` and of the buffers' bytes, which the table leaves unspecified. -/
def Obligations.ResetCycleRebuildsTheState : Prop :=
  ∀ s : State, (nextInput s).rst = true →
    ∃ t, step s = .next t ∧
      t.params = s.params ∧ t.devAddr = 255 ∧ t.tmult = ⟨0x0180, false⟩ ∧ t.bps = 300 ∧ t.chunk = 512 ∧
      t.slots.length = 255 ∧
      (∀ c < 255, t.slots[c]? =
        some (if c = 1 then Slot.text else if c = 3 then .mult else if c = 5 then .exit else .placeholder)) ∧
      gstatusWord t = 0 ∧ t.halted = false ∧ t.cfgerr = false ∧ t.ackdrop = false ∧
      t.disp = ⟨false, .placeholder, 0, 0⟩ ∧ t.lastFail = ⟨0, .none, 0⟩ ∧
      t.view = ⟨⟨0, 0, 0, 0⟩, 0, .none, false, false, 0, 0, 0⟩ ∧ t.cnt = ⟨0, 0, 0, 0, 0⟩ ∧
      t.ports.length = s.params.nport ∧
      (∀ P ∈ t.ports, P.pst = .idle ∧ P.sc = ⟨.msg, 0, 0, 0, 0⟩ ∧ pstatusWord P = 0 ∧ P.result = 0 ∧ P.parg0 = 0 ∧
        P.parg1 = 0 ∧ P.txLen = 0 ∧ P.txSender = 0 ∧ P.txTarget = 0 ∧ P.txCode = 0) ∧
      t.rx.rs = .hdr ∧ t.rx.hcnt = 0 ∧ t.rx.cur = ⟨0, 0, 0, 0⟩ ∧ t.rx.bcnt = 0 ∧ t.rx.e = 0 ∧ t.rx.tmo = some 0 ∧
      t.rx.top = ⟨0, 0, 0, 0⟩ ∧ t.rx.nfrag = 0 ∧ t.rx.fidx = 0 ∧ t.rx.boff = 0 ∧ t.rx.rsum = 0 ∧ t.rx.abrk = false ∧
      t.rx.fcode = 0 ∧ t.rx.mism = false ∧
      t.tx = ⟨.idle, 0, s.params.nport - 1, 0, 0, 512, 0, 0⟩ ∧
      t.env.out.rxReady = false ∧ t.env.out.tx = none ∧
      ((nextInput s).busValid = true → (nextInput s).busWrite = false →
        t.env.out.busRdata = some 0 ∧ t.env.out.busResp = some false)

/-- R321: in a HALTED cycle without reset nothing of the block changes, whatever is written; `rx_ready` and `tx_valid`
are 0; the bus answers a write as it would, and serves a read from the frozen state. -/
def Obligations.HaltedBlockIsFrozen : Prop :=
  ∀ s : State, s.halted = true → (nextInput s).rst = false →
    ∃ t, step s = .next t ∧ SameBlock s t ∧ t.env.out.rxReady = false ∧ t.env.out.tx = none ∧
      ((nextInput s).busValid = true → (nextInput s).busWrite = true →
        t.env.out.busResp = some (writeResp (nextInput s).busWstrb (Input.target (nextInput s) s))) ∧
      ((nextInput s).busValid = true → (nextInput s).busWrite = false →
        t.env.out.busRdata = some (busRead s (Input.target (nextInput s) s)).1 ∧
        t.env.out.busResp = some (busRead s (Input.target (nextInput s) s)).2)

/-! ## The invariant -/

/-- The invariant holds right after reset. -/
def Obligations.ResetMeetsTheInvariant : Prop := Inv State.reset

/-- Every step keeps the invariant: slot table, buffers in canonical form, ranges of both engines, PEND exactly in DWAIT,
mutual exclusion of the ports, and no send in progress under HALTED. -/
def Obligations.StepKeepsTheInvariant : Prop := ∀ s t : State, Inv s → step s = .next t → Inv t

/-- From every state of the invariant the machine runs for ever: no run of any length, under any inputs, stops with a
fault or a refusal (60_exceptions.md R352 "LMPF has no trap"). -/
def Obligations.InvariantStatesRunForEver : Prop :=
  ∀ (k : Nat) (s : State), Inv s → ∃ t, Sys2Proof.core.run k s = .next t ∧ Inv t
end

