-- ==== Sys2Proof/Laws/Decode.lean ====
section
/-! SUPPORT. Words and headers: the lanes of an assembled word, and the header a word carries. -/

namespace Sys2Proof

/-! ## Lanes -/

@[simp] theorem lane_zero_ofLanes (b0 b1 b2 b3 : Byte) : lane 0 (ofLanes b0 b1 b2 b3) = b0 := by
  apply BitVec.eq_of_getLsbD_eq
  intro i hi
  simp only [lane, ofLanes, BitVec.getLsbD_extractLsb', BitVec.getLsbD_append]
  simp [hi]

@[simp] theorem lane_one_ofLanes (b0 b1 b2 b3 : Byte) : lane 1 (ofLanes b0 b1 b2 b3) = b1 := by
  apply BitVec.eq_of_getLsbD_eq
  intro i hi
  simp only [lane, ofLanes, BitVec.getLsbD_extractLsb', BitVec.getLsbD_append]
  simp [hi]

@[simp] theorem lane_two_ofLanes (b0 b1 b2 b3 : Byte) : lane 2 (ofLanes b0 b1 b2 b3) = b2 := by
  apply BitVec.eq_of_getLsbD_eq
  intro i hi
  simp only [lane, ofLanes, BitVec.getLsbD_extractLsb', BitVec.getLsbD_append]
  have h1 : ¬ (8 * 2 + i < 8) := by omega
  have h2 : ¬ (8 * 2 + i - 8 < 8) := by omega
  have h3 : 8 * 2 + i - 8 - 8 = i := by omega
  simp [hi, h1, h2, h3]

@[simp] theorem lane_three_ofLanes (b0 b1 b2 b3 : Byte) : lane 3 (ofLanes b0 b1 b2 b3) = b3 := by
  apply BitVec.eq_of_getLsbD_eq
  intro i hi
  simp only [lane, ofLanes, BitVec.getLsbD_extractLsb', BitVec.getLsbD_append]
  have h1 : ¬ (8 * 3 + i < 8) := by omega
  have h2 : ¬ (8 * 3 + i - 8 < 8) := by omega
  have h3 : ¬ (8 * 3 + i - 8 - 8 < 8) := by omega
  have h4 : 8 * 3 + i - 8 - 8 - 8 = i := by omega
  simp [hi, h1, h2, h3, h4]

/-- A word is the word of its lanes. -/
@[simp] theorem ofLanes_lanes (w : Word) : ofLanes (lane 0 w) (lane 1 w) (lane 2 w) (lane 3 w) = w := by
  apply BitVec.eq_of_getLsbD_eq
  intro i hi
  simp only [lane, ofLanes, BitVec.getLsbD_extractLsb', BitVec.getLsbD_append]
  by_cases h0 : i < 8
  · simp [h0]
  · by_cases h1 : i - 8 < 8
    · have : 8 + (i - 8) = i := by omega
      simp [h0, h1, this]
    · by_cases h2 : i - 8 - 8 < 8
      · have : 8 * 2 + (i - 8 - 8) = i := by omega
        simp [h0, h1, h2, this]
      · have h3 : i - 8 - 8 - 8 < 8 := by omega
        have : 8 * 3 + (i - 8 - 8 - 8) = i := by omega
        simp [h0, h1, h2, h3, this]

/-! ## Headers -/

/-- The header in a header's word. -/
@[simp] theorem ofWord_word (h : Header) : Header.ofWord h.word = h := by
  simp [Header.ofWord, Header.word]

/-- The word of the header in a word. -/
@[simp] theorem word_ofWord (w : Word) : (Header.ofWord w).word = w := by
  simp [Header.ofWord, Header.word]

@[simp] theorem header_code (f : HeaderFields) (c : Byte) : (f.header c).code = c := rfl

@[simp] theorem header_fields (f : HeaderFields) (c : Byte) : (f.header c).fields = f := rfl

/-- A header is its operands and its action code. -/
@[simp] theorem fields_header (h : Header) : h.fields.header h.code = h := rfl

/-- A header's word decodes to the instruction its action code selects, with the other bytes as its operands. -/
theorem decodeWord_wire (f : HeaderFields) (c : Byte) :
    decodeWord .wire (f.header c).word = (decodeCode c, f) := by
  simp [decodeWord, decodeHeader]

/-- A command's only operands are none. -/
theorem carries_pcmd {i : Instr} {f : HeaderFields} {p : Nat} (hs : i.source = .pcmd p) (h : i.carries f = true) :
    f = HeaderFields.zero := by
  simpa [Instr.carries, hs] using h

end Sys2Proof
end

