-- ==== Sys2Proof/Laws/State.lean ====
section
/-! SUPPORT. What each named update of State leaves in each field: one lemma per field per update. -/

namespace Sys2Proof.Machine

/-! ## updPort -/

@[simp] theorem updPort_params (s : State) (p : Nat) (f : Port → Port) : (s.updPort p f).params = s.params := rfl

@[simp] theorem updPort_halted (s : State) (p : Nat) (f : Port → Port) : (s.updPort p f).halted = s.halted := rfl

@[simp] theorem updPort_cfgerr (s : State) (p : Nat) (f : Port → Port) : (s.updPort p f).cfgerr = s.cfgerr := rfl

@[simp] theorem updPort_ackdrop (s : State) (p : Nat) (f : Port → Port) : (s.updPort p f).ackdrop = s.ackdrop := rfl

@[simp] theorem updPort_devAddr (s : State) (p : Nat) (f : Port → Port) : (s.updPort p f).devAddr = s.devAddr := rfl

@[simp] theorem updPort_tmult (s : State) (p : Nat) (f : Port → Port) : (s.updPort p f).tmult = s.tmult := rfl

@[simp] theorem updPort_bps (s : State) (p : Nat) (f : Port → Port) : (s.updPort p f).bps = s.bps := rfl

@[simp] theorem updPort_chunk (s : State) (p : Nat) (f : Port → Port) : (s.updPort p f).chunk = s.chunk := rfl

@[simp] theorem updPort_disp (s : State) (p : Nat) (f : Port → Port) : (s.updPort p f).disp = s.disp := rfl

@[simp] theorem updPort_lastFail (s : State) (p : Nat) (f : Port → Port) : (s.updPort p f).lastFail = s.lastFail := rfl

@[simp] theorem updPort_view (s : State) (p : Nat) (f : Port → Port) : (s.updPort p f).view = s.view := rfl

@[simp] theorem updPort_cnt (s : State) (p : Nat) (f : Port → Port) : (s.updPort p f).cnt = s.cnt := rfl

@[simp] theorem updPort_slots (s : State) (p : Nat) (f : Port → Port) : (s.updPort p f).slots = s.slots := rfl

@[simp] theorem updPort_rx (s : State) (p : Nat) (f : Port → Port) : (s.updPort p f).rx = s.rx := rfl

@[simp] theorem updPort_rxbuf (s : State) (p : Nat) (f : Port → Port) : (s.updPort p f).rxbuf = s.rxbuf := rfl

@[simp] theorem updPort_tx (s : State) (p : Nat) (f : Port → Port) : (s.updPort p f).tx = s.tx := rfl

@[simp] theorem updPort_ports (s : State) (p : Nat) (f : Port → Port) : (s.updPort p f).ports = s.ports.modify p f := rfl

@[simp] theorem updPort_env (s : State) (p : Nat) (f : Port → Port) : (s.updPort p f).env = s.env := rfl

/-! ## setSlot -/

@[simp] theorem setSlot_params (s : State) (c : Nat) (x : Slot) : (s.setSlot c x).params = s.params := rfl

@[simp] theorem setSlot_halted (s : State) (c : Nat) (x : Slot) : (s.setSlot c x).halted = s.halted := rfl

@[simp] theorem setSlot_cfgerr (s : State) (c : Nat) (x : Slot) : (s.setSlot c x).cfgerr = s.cfgerr := rfl

@[simp] theorem setSlot_ackdrop (s : State) (c : Nat) (x : Slot) : (s.setSlot c x).ackdrop = s.ackdrop := rfl

@[simp] theorem setSlot_devAddr (s : State) (c : Nat) (x : Slot) : (s.setSlot c x).devAddr = s.devAddr := rfl

@[simp] theorem setSlot_tmult (s : State) (c : Nat) (x : Slot) : (s.setSlot c x).tmult = s.tmult := rfl

@[simp] theorem setSlot_bps (s : State) (c : Nat) (x : Slot) : (s.setSlot c x).bps = s.bps := rfl

@[simp] theorem setSlot_chunk (s : State) (c : Nat) (x : Slot) : (s.setSlot c x).chunk = s.chunk := rfl

@[simp] theorem setSlot_disp (s : State) (c : Nat) (x : Slot) : (s.setSlot c x).disp = s.disp := rfl

@[simp] theorem setSlot_lastFail (s : State) (c : Nat) (x : Slot) : (s.setSlot c x).lastFail = s.lastFail := rfl

@[simp] theorem setSlot_view (s : State) (c : Nat) (x : Slot) : (s.setSlot c x).view = s.view := rfl

@[simp] theorem setSlot_cnt (s : State) (c : Nat) (x : Slot) : (s.setSlot c x).cnt = s.cnt := rfl

@[simp] theorem setSlot_slots (s : State) (c : Nat) (x : Slot) : (s.setSlot c x).slots = s.slots.set c x := rfl

@[simp] theorem setSlot_rx (s : State) (c : Nat) (x : Slot) : (s.setSlot c x).rx = s.rx := rfl

@[simp] theorem setSlot_rxbuf (s : State) (c : Nat) (x : Slot) : (s.setSlot c x).rxbuf = s.rxbuf := rfl

@[simp] theorem setSlot_tx (s : State) (c : Nat) (x : Slot) : (s.setSlot c x).tx = s.tx := rfl

@[simp] theorem setSlot_ports (s : State) (c : Nat) (x : Slot) : (s.setSlot c x).ports = s.ports := rfl

@[simp] theorem setSlot_env (s : State) (c : Nat) (x : Slot) : (s.setSlot c x).env = s.env := rfl

/-! ## complete -/

@[simp] theorem complete_params (s : State) (p : Nat) (e : ErrCode) (r : Nat) : (s.complete p e r).params = s.params := rfl

@[simp] theorem complete_halted (s : State) (p : Nat) (e : ErrCode) (r : Nat) : (s.complete p e r).halted = s.halted := rfl

@[simp] theorem complete_cfgerr (s : State) (p : Nat) (e : ErrCode) (r : Nat) : (s.complete p e r).cfgerr = s.cfgerr := rfl

@[simp] theorem complete_ackdrop (s : State) (p : Nat) (e : ErrCode) (r : Nat) : (s.complete p e r).ackdrop = s.ackdrop := rfl

@[simp] theorem complete_devAddr (s : State) (p : Nat) (e : ErrCode) (r : Nat) : (s.complete p e r).devAddr = s.devAddr := rfl

@[simp] theorem complete_tmult (s : State) (p : Nat) (e : ErrCode) (r : Nat) : (s.complete p e r).tmult = s.tmult := rfl

@[simp] theorem complete_bps (s : State) (p : Nat) (e : ErrCode) (r : Nat) : (s.complete p e r).bps = s.bps := rfl

@[simp] theorem complete_chunk (s : State) (p : Nat) (e : ErrCode) (r : Nat) : (s.complete p e r).chunk = s.chunk := rfl

@[simp] theorem complete_disp (s : State) (p : Nat) (e : ErrCode) (r : Nat) : (s.complete p e r).disp = s.disp := rfl

@[simp] theorem complete_lastFail (s : State) (p : Nat) (e : ErrCode) (r : Nat) : (s.complete p e r).lastFail = s.lastFail := rfl

@[simp] theorem complete_view (s : State) (p : Nat) (e : ErrCode) (r : Nat) : (s.complete p e r).view = s.view := rfl

@[simp] theorem complete_cnt (s : State) (p : Nat) (e : ErrCode) (r : Nat) : (s.complete p e r).cnt = s.cnt := rfl

@[simp] theorem complete_slots (s : State) (p : Nat) (e : ErrCode) (r : Nat) : (s.complete p e r).slots = s.slots := rfl

@[simp] theorem complete_rx (s : State) (p : Nat) (e : ErrCode) (r : Nat) : (s.complete p e r).rx = s.rx := rfl

@[simp] theorem complete_rxbuf (s : State) (p : Nat) (e : ErrCode) (r : Nat) : (s.complete p e r).rxbuf = s.rxbuf := rfl

@[simp] theorem complete_tx (s : State) (p : Nat) (e : ErrCode) (r : Nat) : (s.complete p e r).tx = s.tx := rfl

@[simp] theorem complete_ports (s : State) (p : Nat) (e : ErrCode) (r : Nat) : (s.complete p e r).ports = s.ports.modify p fun P => P.complete e r := rfl

@[simp] theorem complete_env (s : State) (p : Nat) (e : ErrCode) (r : Nat) : (s.complete p e r).env = s.env := rfl

/-! ## failCommand -/

@[simp] theorem failCommand_params (s : State) (p : Nat) (e : ErrCode) : (s.failCommand p e).params = s.params := rfl

@[simp] theorem failCommand_halted (s : State) (p : Nat) (e : ErrCode) : (s.failCommand p e).halted = s.halted := rfl

@[simp] theorem failCommand_cfgerr (s : State) (p : Nat) (e : ErrCode) : (s.failCommand p e).cfgerr = s.cfgerr := rfl

@[simp] theorem failCommand_ackdrop (s : State) (p : Nat) (e : ErrCode) : (s.failCommand p e).ackdrop = s.ackdrop := rfl

@[simp] theorem failCommand_devAddr (s : State) (p : Nat) (e : ErrCode) : (s.failCommand p e).devAddr = s.devAddr := rfl

@[simp] theorem failCommand_tmult (s : State) (p : Nat) (e : ErrCode) : (s.failCommand p e).tmult = s.tmult := rfl

@[simp] theorem failCommand_bps (s : State) (p : Nat) (e : ErrCode) : (s.failCommand p e).bps = s.bps := rfl

@[simp] theorem failCommand_chunk (s : State) (p : Nat) (e : ErrCode) : (s.failCommand p e).chunk = s.chunk := rfl

@[simp] theorem failCommand_disp (s : State) (p : Nat) (e : ErrCode) : (s.failCommand p e).disp = s.disp := rfl

@[simp] theorem failCommand_lastFail (s : State) (p : Nat) (e : ErrCode) : (s.failCommand p e).lastFail = s.lastFail := rfl

@[simp] theorem failCommand_view (s : State) (p : Nat) (e : ErrCode) : (s.failCommand p e).view = s.view := rfl

@[simp] theorem failCommand_cnt (s : State) (p : Nat) (e : ErrCode) : (s.failCommand p e).cnt = s.cnt := rfl

@[simp] theorem failCommand_slots (s : State) (p : Nat) (e : ErrCode) : (s.failCommand p e).slots = s.slots := rfl

@[simp] theorem failCommand_rx (s : State) (p : Nat) (e : ErrCode) : (s.failCommand p e).rx = s.rx := rfl

@[simp] theorem failCommand_rxbuf (s : State) (p : Nat) (e : ErrCode) : (s.failCommand p e).rxbuf = s.rxbuf := rfl

@[simp] theorem failCommand_tx (s : State) (p : Nat) (e : ErrCode) : (s.failCommand p e).tx = s.tx := rfl

@[simp] theorem failCommand_ports (s : State) (p : Nat) (e : ErrCode) : (s.failCommand p e).ports = s.ports.modify p fun P => P.complete e 0 := rfl

@[simp] theorem failCommand_env (s : State) (p : Nat) (e : ErrCode) : (s.failCommand p e).env = s.env := rfl

/-! ## report -/

@[simp] theorem report_params (s : State) (k : Cause) (c h : Byte) : (s.report k c h).params = s.params := rfl

@[simp] theorem report_halted (s : State) (k : Cause) (c h : Byte) : (s.report k c h).halted = s.halted := rfl

@[simp] theorem report_cfgerr (s : State) (k : Cause) (c h : Byte) : (s.report k c h).cfgerr = s.cfgerr := rfl

@[simp] theorem report_ackdrop (s : State) (k : Cause) (c h : Byte) : (s.report k c h).ackdrop = s.ackdrop := rfl

@[simp] theorem report_devAddr (s : State) (k : Cause) (c h : Byte) : (s.report k c h).devAddr = s.devAddr := rfl

@[simp] theorem report_tmult (s : State) (k : Cause) (c h : Byte) : (s.report k c h).tmult = s.tmult := rfl

@[simp] theorem report_bps (s : State) (k : Cause) (c h : Byte) : (s.report k c h).bps = s.bps := rfl

@[simp] theorem report_chunk (s : State) (k : Cause) (c h : Byte) : (s.report k c h).chunk = s.chunk := rfl

@[simp] theorem report_disp (s : State) (k : Cause) (c h : Byte) : (s.report k c h).disp = s.disp := rfl

@[simp] theorem report_lastFail (s : State) (k : Cause) (c h : Byte) : (s.report k c h).lastFail = ⟨c, k, h⟩ := rfl

@[simp] theorem report_view (s : State) (k : Cause) (c h : Byte) : (s.report k c h).view = s.view := rfl

@[simp] theorem report_cnt (s : State) (k : Cause) (c h : Byte) : (s.report k c h).cnt = { s.cnt with hfail := s.cnt.hfail + 1 } := rfl

@[simp] theorem report_slots (s : State) (k : Cause) (c h : Byte) : (s.report k c h).slots = s.slots := rfl

@[simp] theorem report_rx (s : State) (k : Cause) (c h : Byte) : (s.report k c h).rx = s.rx := rfl

@[simp] theorem report_rxbuf (s : State) (k : Cause) (c h : Byte) : (s.report k c h).rxbuf = s.rxbuf := rfl

@[simp] theorem report_tx (s : State) (k : Cause) (c h : Byte) : (s.report k c h).tx = s.tx := rfl

@[simp] theorem report_ports (s : State) (k : Cause) (c h : Byte) : (s.report k c h).ports = s.ports := rfl

@[simp] theorem report_env (s : State) (k : Cause) (c h : Byte) : (s.report k c h).env = s.env := rfl

/-! ## setRs -/

@[simp] theorem setRs_params (s : State) (x : RxState) : (s.setRs x).params = s.params := rfl

@[simp] theorem setRs_halted (s : State) (x : RxState) : (s.setRs x).halted = s.halted := rfl

@[simp] theorem setRs_cfgerr (s : State) (x : RxState) : (s.setRs x).cfgerr = s.cfgerr := rfl

@[simp] theorem setRs_ackdrop (s : State) (x : RxState) : (s.setRs x).ackdrop = s.ackdrop := rfl

@[simp] theorem setRs_devAddr (s : State) (x : RxState) : (s.setRs x).devAddr = s.devAddr := rfl

@[simp] theorem setRs_tmult (s : State) (x : RxState) : (s.setRs x).tmult = s.tmult := rfl

@[simp] theorem setRs_bps (s : State) (x : RxState) : (s.setRs x).bps = s.bps := rfl

@[simp] theorem setRs_chunk (s : State) (x : RxState) : (s.setRs x).chunk = s.chunk := rfl

@[simp] theorem setRs_disp (s : State) (x : RxState) : (s.setRs x).disp = s.disp := rfl

@[simp] theorem setRs_lastFail (s : State) (x : RxState) : (s.setRs x).lastFail = s.lastFail := rfl

@[simp] theorem setRs_view (s : State) (x : RxState) : (s.setRs x).view = s.view := rfl

@[simp] theorem setRs_cnt (s : State) (x : RxState) : (s.setRs x).cnt = s.cnt := rfl

@[simp] theorem setRs_slots (s : State) (x : RxState) : (s.setRs x).slots = s.slots := rfl

@[simp] theorem setRs_rx (s : State) (x : RxState) : (s.setRs x).rx = { s.rx with rs := x } := rfl

@[simp] theorem setRs_rxbuf (s : State) (x : RxState) : (s.setRs x).rxbuf = s.rxbuf := rfl

@[simp] theorem setRs_tx (s : State) (x : RxState) : (s.setRs x).tx = s.tx := rfl

@[simp] theorem setRs_ports (s : State) (x : RxState) : (s.setRs x).ports = s.ports := rfl

@[simp] theorem setRs_env (s : State) (x : RxState) : (s.setRs x).env = s.env := rfl

/-! ## waitHandler -/

@[simp] theorem waitHandler_params (s : State) (k : SlotKind) (h c : Byte) : (s.waitHandler k h c).params = s.params := rfl

@[simp] theorem waitHandler_halted (s : State) (k : SlotKind) (h c : Byte) : (s.waitHandler k h c).halted = s.halted := rfl

@[simp] theorem waitHandler_cfgerr (s : State) (k : SlotKind) (h c : Byte) : (s.waitHandler k h c).cfgerr = s.cfgerr := rfl

@[simp] theorem waitHandler_ackdrop (s : State) (k : SlotKind) (h c : Byte) : (s.waitHandler k h c).ackdrop = s.ackdrop := rfl

@[simp] theorem waitHandler_devAddr (s : State) (k : SlotKind) (h c : Byte) : (s.waitHandler k h c).devAddr = s.devAddr := rfl

@[simp] theorem waitHandler_tmult (s : State) (k : SlotKind) (h c : Byte) : (s.waitHandler k h c).tmult = s.tmult := rfl

@[simp] theorem waitHandler_bps (s : State) (k : SlotKind) (h c : Byte) : (s.waitHandler k h c).bps = s.bps := rfl

@[simp] theorem waitHandler_chunk (s : State) (k : SlotKind) (h c : Byte) : (s.waitHandler k h c).chunk = s.chunk := rfl

@[simp] theorem waitHandler_disp (s : State) (k : SlotKind) (h c : Byte) : (s.waitHandler k h c).disp = ⟨true, k, h, c⟩ := rfl

@[simp] theorem waitHandler_lastFail (s : State) (k : SlotKind) (h c : Byte) : (s.waitHandler k h c).lastFail = s.lastFail := rfl

@[simp] theorem waitHandler_view (s : State) (k : SlotKind) (h c : Byte) : (s.waitHandler k h c).view = s.view := rfl

@[simp] theorem waitHandler_cnt (s : State) (k : SlotKind) (h c : Byte) : (s.waitHandler k h c).cnt = s.cnt := rfl

@[simp] theorem waitHandler_slots (s : State) (k : SlotKind) (h c : Byte) : (s.waitHandler k h c).slots = s.slots := rfl

@[simp] theorem waitHandler_rx (s : State) (k : SlotKind) (h c : Byte) : (s.waitHandler k h c).rx = { s.rx with rs := .dwait } := rfl

@[simp] theorem waitHandler_rxbuf (s : State) (k : SlotKind) (h c : Byte) : (s.waitHandler k h c).rxbuf = s.rxbuf := rfl

@[simp] theorem waitHandler_tx (s : State) (k : SlotKind) (h c : Byte) : (s.waitHandler k h c).tx = s.tx := rfl

@[simp] theorem waitHandler_ports (s : State) (k : SlotKind) (h c : Byte) : (s.waitHandler k h c).ports = s.ports := rfl

@[simp] theorem waitHandler_env (s : State) (k : SlotKind) (h c : Byte) : (s.waitHandler k h c).env = s.env := rfl

/-! ## exitAbort -/

@[simp] theorem exitAbort_params (s : State) : (s.exitAbort).params = s.params := rfl

@[simp] theorem exitAbort_halted (s : State) : (s.exitAbort).halted = true := rfl

@[simp] theorem exitAbort_cfgerr (s : State) : (s.exitAbort).cfgerr = s.cfgerr := rfl

@[simp] theorem exitAbort_ackdrop (s : State) : (s.exitAbort).ackdrop = s.ackdrop := rfl

@[simp] theorem exitAbort_devAddr (s : State) : (s.exitAbort).devAddr = s.devAddr := rfl

@[simp] theorem exitAbort_tmult (s : State) : (s.exitAbort).tmult = s.tmult := rfl

@[simp] theorem exitAbort_bps (s : State) : (s.exitAbort).bps = s.bps := rfl

@[simp] theorem exitAbort_chunk (s : State) : (s.exitAbort).chunk = s.chunk := rfl

@[simp] theorem exitAbort_disp (s : State) : (s.exitAbort).disp = s.disp := rfl

@[simp] theorem exitAbort_lastFail (s : State) : (s.exitAbort).lastFail = s.lastFail := rfl

@[simp] theorem exitAbort_view (s : State) : (s.exitAbort).view = s.view := rfl

@[simp] theorem exitAbort_cnt (s : State) : (s.exitAbort).cnt = s.cnt := rfl

@[simp] theorem exitAbort_slots (s : State) : (s.exitAbort).slots = s.slots := rfl

@[simp] theorem exitAbort_rx (s : State) : (s.exitAbort).rx = s.rx := rfl

@[simp] theorem exitAbort_rxbuf (s : State) : (s.exitAbort).rxbuf = s.rxbuf := rfl

@[simp] theorem exitAbort_tx (s : State) : (s.exitAbort).tx = { s.tx with ts := .idle } := rfl

@[simp] theorem exitAbort_ports (s : State) : (s.exitAbort).ports = s.ports.mapIdx (abortPort s.tx) := rfl

@[simp] theorem exitAbort_env (s : State) : (s.exitAbort).env = s.env := rfl

/-! ## writeGstatus -/

@[simp] theorem writeGstatus_params (s : State) (w : Word) : (s.writeGstatus w).params = s.params := rfl

@[simp] theorem writeGstatus_halted (s : State) (w : Word) : (s.writeGstatus w).halted = s.halted := rfl

@[simp] theorem writeGstatus_cfgerr (s : State) (w : Word) : (s.writeGstatus w).cfgerr = w1c s.cfgerr w 2 := rfl

@[simp] theorem writeGstatus_ackdrop (s : State) (w : Word) : (s.writeGstatus w).ackdrop = w1c s.ackdrop w 3 := rfl

@[simp] theorem writeGstatus_devAddr (s : State) (w : Word) : (s.writeGstatus w).devAddr = s.devAddr := rfl

@[simp] theorem writeGstatus_tmult (s : State) (w : Word) : (s.writeGstatus w).tmult = s.tmult := rfl

@[simp] theorem writeGstatus_bps (s : State) (w : Word) : (s.writeGstatus w).bps = s.bps := rfl

@[simp] theorem writeGstatus_chunk (s : State) (w : Word) : (s.writeGstatus w).chunk = s.chunk := rfl

@[simp] theorem writeGstatus_disp (s : State) (w : Word) : (s.writeGstatus w).disp = s.disp := rfl

@[simp] theorem writeGstatus_lastFail (s : State) (w : Word) : (s.writeGstatus w).lastFail = s.lastFail := rfl

@[simp] theorem writeGstatus_view (s : State) (w : Word) : (s.writeGstatus w).view = s.view := rfl

@[simp] theorem writeGstatus_cnt (s : State) (w : Word) : (s.writeGstatus w).cnt = s.cnt := rfl

@[simp] theorem writeGstatus_slots (s : State) (w : Word) : (s.writeGstatus w).slots = s.slots := rfl

@[simp] theorem writeGstatus_rx (s : State) (w : Word) : (s.writeGstatus w).rx = s.rx := rfl

@[simp] theorem writeGstatus_rxbuf (s : State) (w : Word) : (s.writeGstatus w).rxbuf = s.rxbuf := rfl

@[simp] theorem writeGstatus_tx (s : State) (w : Word) : (s.writeGstatus w).tx = s.tx := rfl

@[simp] theorem writeGstatus_ports (s : State) (w : Word) : (s.writeGstatus w).ports = s.ports := rfl

@[simp] theorem writeGstatus_env (s : State) (w : Word) : (s.writeGstatus w).env = s.env := rfl

/-! ## viewFrame -/

@[simp] theorem viewFrame_params (s : State) (F : Frame) : (s.viewFrame F).params = s.params := rfl

@[simp] theorem viewFrame_halted (s : State) (F : Frame) : (s.viewFrame F).halted = s.halted := rfl

@[simp] theorem viewFrame_cfgerr (s : State) (F : Frame) : (s.viewFrame F).cfgerr = s.cfgerr := rfl

@[simp] theorem viewFrame_ackdrop (s : State) (F : Frame) : (s.viewFrame F).ackdrop = s.ackdrop := rfl

@[simp] theorem viewFrame_devAddr (s : State) (F : Frame) : (s.viewFrame F).devAddr = s.devAddr := rfl

@[simp] theorem viewFrame_tmult (s : State) (F : Frame) : (s.viewFrame F).tmult = s.tmult := rfl

@[simp] theorem viewFrame_bps (s : State) (F : Frame) : (s.viewFrame F).bps = s.bps := rfl

@[simp] theorem viewFrame_chunk (s : State) (F : Frame) : (s.viewFrame F).chunk = s.chunk := rfl

@[simp] theorem viewFrame_disp (s : State) (F : Frame) : (s.viewFrame F).disp = s.disp := rfl

@[simp] theorem viewFrame_lastFail (s : State) (F : Frame) : (s.viewFrame F).lastFail = s.lastFail := rfl

@[simp] theorem viewFrame_view (s : State) (F : Frame) : (s.viewFrame F).view = ⟨F.hdr, F.code, F.kind, F.anyBroken, F.mismatch, BitVec.ofNat 17 F.bodylen, BitVec.ofNat 17 F.rcvlen, BitVec.ofNat 8 F.nfrag⟩ := rfl

@[simp] theorem viewFrame_cnt (s : State) (F : Frame) : (s.viewFrame F).cnt = { s.cnt with rxframe := s.cnt.rxframe + 1 } := rfl

@[simp] theorem viewFrame_slots (s : State) (F : Frame) : (s.viewFrame F).slots = s.slots := rfl

@[simp] theorem viewFrame_rx (s : State) (F : Frame) : (s.viewFrame F).rx = s.rx := rfl

@[simp] theorem viewFrame_rxbuf (s : State) (F : Frame) : (s.viewFrame F).rxbuf = s.rxbuf := rfl

@[simp] theorem viewFrame_tx (s : State) (F : Frame) : (s.viewFrame F).tx = s.tx := rfl

@[simp] theorem viewFrame_ports (s : State) (F : Frame) : (s.viewFrame F).ports = s.ports := rfl

@[simp] theorem viewFrame_env (s : State) (F : Frame) : (s.viewFrame F).env = s.env := rfl

/-! ## joinRx -/

@[simp] theorem joinRx_params (pre a r : State) : (joinRx pre a r).params = a.params := rfl

@[simp] theorem joinRx_halted (pre a r : State) : (joinRx pre a r).halted = a.halted := rfl

@[simp] theorem joinRx_cfgerr (pre a r : State) : (joinRx pre a r).cfgerr = a.cfgerr := rfl

@[simp] theorem joinRx_ackdrop (pre a r : State) : (joinRx pre a r).ackdrop = a.ackdrop := rfl

@[simp] theorem joinRx_devAddr (pre a r : State) : (joinRx pre a r).devAddr = a.devAddr := rfl

@[simp] theorem joinRx_tmult (pre a r : State) : (joinRx pre a r).tmult = if multWrites pre = true then r.tmult else a.tmult := rfl

@[simp] theorem joinRx_bps (pre a r : State) : (joinRx pre a r).bps = a.bps := rfl

@[simp] theorem joinRx_chunk (pre a r : State) : (joinRx pre a r).chunk = a.chunk := rfl

@[simp] theorem joinRx_disp (pre a r : State) : (joinRx pre a r).disp = r.disp := rfl

@[simp] theorem joinRx_lastFail (pre a r : State) : (joinRx pre a r).lastFail = r.lastFail := rfl

@[simp] theorem joinRx_view (pre a r : State) : (joinRx pre a r).view = r.view := rfl

@[simp] theorem joinRx_cnt (pre a r : State) : (joinRx pre a r).cnt = r.cnt := rfl

@[simp] theorem joinRx_slots (pre a r : State) : (joinRx pre a r).slots = a.slots := rfl

@[simp] theorem joinRx_rx (pre a r : State) : (joinRx pre a r).rx = r.rx := rfl

@[simp] theorem joinRx_rxbuf (pre a r : State) : (joinRx pre a r).rxbuf = r.rxbuf := rfl

@[simp] theorem joinRx_tx (pre a r : State) : (joinRx pre a r).tx = a.tx := rfl

@[simp] theorem joinRx_ports (pre a r : State) : (joinRx pre a r).ports = a.ports := rfl

@[simp] theorem joinRx_env (pre a r : State) : (joinRx pre a r).env = a.env := rfl

/-! ## ackDispatch -/

@[simp] theorem ackDispatch_params (s : State) (fail : Bool) : (s.ackDispatch fail).params = s.params := by
  unfold State.ackDispatch; split <;> rfl

@[simp] theorem ackDispatch_halted (s : State) (fail : Bool) : (s.ackDispatch fail).halted = s.halted := by
  unfold State.ackDispatch; split <;> rfl

@[simp] theorem ackDispatch_cfgerr (s : State) (fail : Bool) : (s.ackDispatch fail).cfgerr = s.cfgerr := by
  unfold State.ackDispatch; split <;> rfl

@[simp] theorem ackDispatch_ackdrop (s : State) (fail : Bool) : (s.ackDispatch fail).ackdrop = s.ackdrop := by
  unfold State.ackDispatch; split <;> rfl

@[simp] theorem ackDispatch_devAddr (s : State) (fail : Bool) : (s.ackDispatch fail).devAddr = s.devAddr := by
  unfold State.ackDispatch; split <;> rfl

@[simp] theorem ackDispatch_tmult (s : State) (fail : Bool) : (s.ackDispatch fail).tmult = s.tmult := by
  unfold State.ackDispatch; split <;> rfl

@[simp] theorem ackDispatch_bps (s : State) (fail : Bool) : (s.ackDispatch fail).bps = s.bps := by
  unfold State.ackDispatch; split <;> rfl

@[simp] theorem ackDispatch_chunk (s : State) (fail : Bool) : (s.ackDispatch fail).chunk = s.chunk := by
  unfold State.ackDispatch; split <;> rfl

@[simp] theorem ackDispatch_disp (s : State) (fail : Bool) : (s.ackDispatch fail).disp = ⟨false, .placeholder, 0, 0⟩ := by
  unfold State.ackDispatch; split <;> rfl

@[simp] theorem ackDispatch_lastFail (s : State) (fail : Bool) : (s.ackDispatch fail).lastFail = (if s.disp.kind = .ext ∧ fail = true then ⟨s.disp.code, .handler, s.disp.hid⟩ else s.lastFail) := by
  unfold State.ackDispatch; split <;> rfl

@[simp] theorem ackDispatch_view (s : State) (fail : Bool) : (s.ackDispatch fail).view = s.view := by
  unfold State.ackDispatch; split <;> rfl

@[simp] theorem ackDispatch_cnt (s : State) (fail : Bool) : (s.ackDispatch fail).cnt = (if s.disp.kind = .ext ∧ fail = true then { s.cnt with hfail := s.cnt.hfail + 1 } else s.cnt) := by
  unfold State.ackDispatch; split <;> rfl

@[simp] theorem ackDispatch_slots (s : State) (fail : Bool) : (s.ackDispatch fail).slots = s.slots := by
  unfold State.ackDispatch; split <;> rfl

@[simp] theorem ackDispatch_rx (s : State) (fail : Bool) : (s.ackDispatch fail).rx = { s.rx with rs := .hdr } := by
  unfold State.ackDispatch; split <;> rfl

@[simp] theorem ackDispatch_rxbuf (s : State) (fail : Bool) : (s.ackDispatch fail).rxbuf = s.rxbuf := by
  unfold State.ackDispatch; split <;> rfl

@[simp] theorem ackDispatch_tx (s : State) (fail : Bool) : (s.ackDispatch fail).tx = s.tx := by
  unfold State.ackDispatch; split <;> rfl

@[simp] theorem ackDispatch_ports (s : State) (fail : Bool) : (s.ackDispatch fail).ports = s.ports := by
  unfold State.ackDispatch; split <;> rfl

@[simp] theorem ackDispatch_env (s : State) (fail : Bool) : (s.ackDispatch fail).env = s.env := by
  unfold State.ackDispatch; split <;> rfl

/-! ## closeFragment -/

@[simp] theorem closeFragment_params (pre s : State) : (closeFragment pre s).params = s.params := rfl

@[simp] theorem closeFragment_halted (pre s : State) : (closeFragment pre s).halted = s.halted := rfl

@[simp] theorem closeFragment_cfgerr (pre s : State) : (closeFragment pre s).cfgerr = s.cfgerr := rfl

@[simp] theorem closeFragment_ackdrop (pre s : State) : (closeFragment pre s).ackdrop = s.ackdrop := rfl

@[simp] theorem closeFragment_devAddr (pre s : State) : (closeFragment pre s).devAddr = s.devAddr := rfl

@[simp] theorem closeFragment_tmult (pre s : State) : (closeFragment pre s).tmult = s.tmult := rfl

@[simp] theorem closeFragment_bps (pre s : State) : (closeFragment pre s).bps = s.bps := rfl

@[simp] theorem closeFragment_chunk (pre s : State) : (closeFragment pre s).chunk = s.chunk := rfl

@[simp] theorem closeFragment_disp (pre s : State) : (closeFragment pre s).disp = s.disp := rfl

@[simp] theorem closeFragment_lastFail (pre s : State) : (closeFragment pre s).lastFail = s.lastFail := rfl

@[simp] theorem closeFragment_view (pre s : State) : (closeFragment pre s).view = s.view := rfl

@[simp] theorem closeFragment_cnt (pre s : State) : (closeFragment pre s).cnt = s.cnt := rfl

@[simp] theorem closeFragment_slots (pre s : State) : (closeFragment pre s).slots = s.slots := rfl

@[simp] theorem closeFragment_rxbuf (pre s : State) : (closeFragment pre s).rxbuf = s.rxbuf := rfl

@[simp] theorem closeFragment_tx (pre s : State) : (closeFragment pre s).tx = s.tx := rfl

@[simp] theorem closeFragment_ports (pre s : State) : (closeFragment pre s).ports = s.ports := rfl

@[simp] theorem closeFragment_env (pre s : State) : (closeFragment pre s).env = s.env := rfl

@[simp] theorem closeFragment_rx_rs (pre s : State) : (closeFragment pre s).rx.rs = s.rx.rs := rfl

@[simp] theorem closeFragment_rx_hcnt (pre s : State) : (closeFragment pre s).rx.hcnt = s.rx.hcnt := rfl

@[simp] theorem closeFragment_rx_hb0 (pre s : State) : (closeFragment pre s).rx.hb0 = s.rx.hb0 := rfl

@[simp] theorem closeFragment_rx_hb1 (pre s : State) : (closeFragment pre s).rx.hb1 = s.rx.hb1 := rfl

@[simp] theorem closeFragment_rx_hb2 (pre s : State) : (closeFragment pre s).rx.hb2 = s.rx.hb2 := rfl

@[simp] theorem closeFragment_rx_cur (pre s : State) : (closeFragment pre s).rx.cur = s.rx.cur := rfl

@[simp] theorem closeFragment_rx_bcnt (pre s : State) : (closeFragment pre s).rx.bcnt = s.rx.bcnt := rfl

@[simp] theorem closeFragment_rx_e (pre s : State) : (closeFragment pre s).rx.e = s.rx.e := rfl

@[simp] theorem closeFragment_rx_tmo (pre s : State) : (closeFragment pre s).rx.tmo = s.rx.tmo := rfl

@[simp] theorem closeFragment_rx_top (pre s : State) : (closeFragment pre s).rx.top = s.rx.top := rfl

@[simp] theorem closeFragment_rx_nfrag (pre s : State) : (closeFragment pre s).rx.nfrag = s.rx.nfrag := rfl

@[simp] theorem closeFragment_rx_fidx (pre s : State) : (closeFragment pre s).rx.fidx = pre.rx.fidx + 1 := rfl

@[simp] theorem closeFragment_rx_boff (pre s : State) : (closeFragment pre s).rx.boff = pre.rx.boff + pre.rx.cur.len.toNat := rfl

@[simp] theorem closeFragment_rx_rsum (pre s : State) : (closeFragment pre s).rx.rsum = pre.rx.rsum + pre.rx.bcnt := rfl

/-! ## Port completion -/

@[simp] theorem port_complete_pst (P : Port) (e : ErrCode) (r : Nat) : (P.complete e r).pst = P.pst := rfl

@[simp] theorem port_complete_sc (P : Port) (e : ErrCode) (r : Nat) : (P.complete e r).sc = P.sc := rfl

@[simp] theorem port_complete_done (P : Port) (e : ErrCode) (r : Nat) : (P.complete e r).done = true := rfl

@[simp] theorem port_complete_cmddrop (P : Port) (e : ErrCode) (r : Nat) : (P.complete e r).cmddrop = P.cmddrop := rfl

@[simp] theorem port_complete_wdrop (P : Port) (e : ErrCode) (r : Nat) : (P.complete e r).wdrop = P.wdrop := rfl

@[simp] theorem port_complete_err (P : Port) (e : ErrCode) (r : Nat) : (P.complete e r).err = e := rfl

@[simp] theorem port_complete_result (P : Port) (e : ErrCode) (r : Nat) : (P.complete e r).result = BitVec.ofNat 32 r := rfl

@[simp] theorem port_complete_parg0 (P : Port) (e : ErrCode) (r : Nat) : (P.complete e r).parg0 = P.parg0 := rfl

@[simp] theorem port_complete_parg1 (P : Port) (e : ErrCode) (r : Nat) : (P.complete e r).parg1 = P.parg1 := rfl

@[simp] theorem port_complete_txLen (P : Port) (e : ErrCode) (r : Nat) : (P.complete e r).txLen = P.txLen := rfl

@[simp] theorem port_complete_txSender (P : Port) (e : ErrCode) (r : Nat) : (P.complete e r).txSender = P.txSender := rfl

@[simp] theorem port_complete_txTarget (P : Port) (e : ErrCode) (r : Nat) : (P.complete e r).txTarget = P.txTarget := rfl

@[simp] theorem port_complete_txCode (P : Port) (e : ErrCode) (r : Nat) : (P.complete e r).txCode = P.txCode := rfl

@[simp] theorem port_complete_txbuf (P : Port) (e : ErrCode) (r : Nat) : (P.complete e r).txbuf = P.txbuf := rfl

@[simp] theorem port_sendEnds_pst (P : Port) (e : ErrCode) (r : Nat) : (P.sendEnds e r).pst = .idle := rfl

@[simp] theorem port_sendEnds_sc (P : Port) (e : ErrCode) (r : Nat) : (P.sendEnds e r).sc = P.sc := rfl

@[simp] theorem port_sendEnds_done (P : Port) (e : ErrCode) (r : Nat) : (P.sendEnds e r).done = true := rfl

@[simp] theorem port_sendEnds_cmddrop (P : Port) (e : ErrCode) (r : Nat) : (P.sendEnds e r).cmddrop = P.cmddrop := rfl

@[simp] theorem port_sendEnds_wdrop (P : Port) (e : ErrCode) (r : Nat) : (P.sendEnds e r).wdrop = P.wdrop := rfl

@[simp] theorem port_sendEnds_err (P : Port) (e : ErrCode) (r : Nat) : (P.sendEnds e r).err = e := rfl

@[simp] theorem port_sendEnds_result (P : Port) (e : ErrCode) (r : Nat) : (P.sendEnds e r).result = BitVec.ofNat 32 r := rfl

@[simp] theorem port_sendEnds_parg0 (P : Port) (e : ErrCode) (r : Nat) : (P.sendEnds e r).parg0 = P.parg0 := rfl

@[simp] theorem port_sendEnds_parg1 (P : Port) (e : ErrCode) (r : Nat) : (P.sendEnds e r).parg1 = P.parg1 := rfl

@[simp] theorem port_sendEnds_txLen (P : Port) (e : ErrCode) (r : Nat) : (P.sendEnds e r).txLen = P.txLen := rfl

@[simp] theorem port_sendEnds_txSender (P : Port) (e : ErrCode) (r : Nat) : (P.sendEnds e r).txSender = P.txSender := rfl

@[simp] theorem port_sendEnds_txTarget (P : Port) (e : ErrCode) (r : Nat) : (P.sendEnds e r).txTarget = P.txTarget := rfl

@[simp] theorem port_sendEnds_txCode (P : Port) (e : ErrCode) (r : Nat) : (P.sendEnds e r).txCode = P.txCode := rfl

@[simp] theorem port_sendEnds_txbuf (P : Port) (e : ErrCode) (r : Nat) : (P.sendEnds e r).txbuf = P.txbuf := rfl

end Sys2Proof.Machine
end

