-- ==== Sys2Proof/Laws/Ops.lean ====
section
/-! SUPPORT. What each shared operation can do: one lemma per operation, to be cited instead of unfolding it. -/

namespace Sys2Proof.Machine

/-! ## Results -/

@[simp] theorem andThen_next (s : State) (f : State → Result) : andThen (.next s) f = f s := rfl

@[simp] theorem andThen_fault (x : Fault) (f : State → Result) : andThen (.fault x) f = .fault x := rfl

/-- Two operations answer a next state iff both do. -/
theorem andThen_eq_next {r : Result} {f : State → Result} {t : State} :
    andThen r f = .next t ↔ ∃ s, r = .next s ∧ f s = .next t := by
  cases r <;> simp [andThen]

/-! ## Ports -/

/-- Reading a port after an update of one. -/
theorem updPort_getElem? (s : State) (p q : Nat) (f : Port → Port) :
    (s.updPort p f).ports[q]? = if p = q then (s.ports[q]?).map f else s.ports[q]? := by
  rw [updPort_ports, List.getElem?_modify]
  split <;> simp_all

/-- An update of one port keeps how many there are. -/
@[simp] theorem updPort_length (s : State) (p : Nat) (f : Port → Port) :
    (s.updPort p f).ports.length = s.ports.length := by simp

/-- The abort visits every port. -/
theorem exitAbort_getElem? (s : State) (q : Nat) :
    s.exitAbort.ports[q]? = (s.ports[q]?).map (abortPort s.tx q) := by simp

/-- An aborted port is idle. -/
@[simp] theorem abortPort_pst (tx : TxEngine) (p : Nat) (P : Port) : (abortPort tx p P).pst = .idle := by
  unfold abortPort; split
  · assumption
  · rfl

/-! ## Commands -/

/-- A command of an existing port answers a next state: CMDDROP on a busy port, its body on an idle one. -/
theorem onIdlePort_eq_next {p : Nat} {s t : State} {body : Port → State} :
    onIdlePort p s body = .next t ↔
      ∃ P, s.ports[p]? = some P ∧
        ((P.pst = .idle ∧ t = body P) ∨
          (P.pst ≠ .idle ∧ t = s.updPort p fun P => { P with cmddrop := true })) := by
  unfold onIdlePort
  cases h : s.ports[p]? with
  | none => simp
  | some P =>
    by_cases hp : P.pst = .idle
    · simpa [hp] using ⟨Eq.symm, Eq.symm⟩
    · simpa [hp] using ⟨Eq.symm, Eq.symm⟩

/-- A command of an idle port does its body. -/
theorem onIdlePort_idle {p : Nat} {s : State} {P : Port} {body : Port → State} (h : s.ports[p]? = some P)
    (hp : P.pst = .idle) : onIdlePort p s body = .next (body P) := by simp [onIdlePort, h, hp]

/-- A command of a busy port is dropped. -/
theorem onIdlePort_busy {p : Nat} {s : State} {P : Port} {body : Port → State} (h : s.ports[p]? = some P)
    (hp : P.pst ≠ .idle) : onIdlePort p s body = .next (s.updPort p fun P => { P with cmddrop := true }) := by
  simp [onIdlePort, h, hp]

/-- A command of a port that does not exist faults. -/
theorem onIdlePort_missing {p : Nat} {s : State} {body : Port → State} (h : s.ports[p]? = none) :
    onIdlePort p s body = .fault (.noSuchPort p) := by simp [onIdlePort, h]

/-! ## Frames -/

/-- The state classification leaves when it answers one: the frame is whole and nothing changes, or it is broken, fits
RXBUF, and is padded and counted. -/
theorem classify_eq_next {s t : State} :
    classify s = .next t ↔
      (isBroken s = false ∧ t = s) ∨
      (isBroken s = true ∧ bodyBase s + s.rx.cur.len.toNat ≤ maxPayload ∧
        t = { s with
          rxbuf := memFill s.rxbuf (bodyBase s + s.rx.bcnt) (s.rx.cur.len.toNat - s.rx.bcnt) s.params.fill
          cnt := { s.cnt with broken := s.cnt.broken + 1 } }) := by
  unfold classify
  cases hb : isBroken s with
  | false => simp [eq_comm]
  | true =>
    by_cases h : bodyBase s + s.rx.cur.len.toNat > maxPayload
    · simp [h]
    · have h' : bodyBase s + s.rx.cur.len.toNat ≤ maxPayload := by omega
      rw [if_pos rfl, if_neg h]
      simp [eq_comm, h']

/-- Classification changes RXBUF and the count of broken frames, nothing else. -/
theorem classify_frame {s t : State} (h : classify s = .next t) :
    t = { s with rxbuf := t.rxbuf, cnt := { s.cnt with broken := t.cnt.broken } } := by
  rcases classify_eq_next.1 h with ⟨_, rfl⟩ | ⟨_, _, rfl⟩ <;> rfl

/-- A frame completes as a bundle at a last fragment, else as a top-level frame. -/
theorem completeFrame_eq_next {c : Byte} {s t : State} :
    completeFrame c s = .next t ↔
      ∃ s1, classify s = .next s1 ∧
        ((s.rx.rs = .fbody ∧ t = deliver (bundleFrame c s) (closeFragment s s1)) ∨
          (s.rx.rs ≠ .fbody ∧ t = deliver (topFrame c s) s1)) := by
  unfold completeFrame
  rw [andThen_eq_next]
  refine exists_congr fun s1 => and_congr_right fun _ => ?_
  by_cases h : s.rx.rs = .fbody <;> simp [h, eq_comm]

/-- The decision of filter and dispatch mux, by case. -/
theorem frameAction_cases (F : Frame) (s : State) :
    (accepts s F = false ∧ frameAction F s = .drop) ∨
    (accepts s F = true ∧ s.slot? F.code.toNat = none ∧ frameAction F s = .rangeFault) ∨
    (∃ x, accepts s F = true ∧ s.slot? F.code.toNat = some x ∧ frameAction F s = slotAction F s x) := by
  unfold frameAction
  cases h : accepts s F with
  | false => simp
  | true =>
    cases hs : s.slot? F.code.toNat with
    | none => simp
    | some x => simp

/-- The dispatch decides from the state before the frame view is written; the view does not change the decision's
inputs. -/
theorem deliver_eq (F : Frame) (s : State) : deliver F s = (frameAction F s).apply F.code (s.viewFrame F) := rfl

/-- The last fragment's bookkeeping does not change what is dispatched. -/
@[simp] theorem closeFragment_slot? (pre s : State) (c : Nat) : (closeFragment pre s).slot? c = s.slot? c := rfl

/-- A slot exists for the codes below 255 of a whole table. -/
theorem slot?_lt {s : State} {c : Nat} (h : c < nslot) : s.slot? c = s.slots[c]? := by simp [State.slot?, h]

/-- Code 255 has no slot. -/
theorem slot?_ge {s : State} {c : Nat} (h : nslot ≤ c) : s.slot? c = none := by
  simp [State.slot?, Nat.not_lt.2 h]

/-! ## Ceiling division -/

/-- The ceiling quotient times the divisor covers the dividend, and no smaller quotient does. -/
theorem cdiv_spec {a b : Nat} (hb : 0 < b) : a ≤ cdiv a b * b ∧ ∀ q, a ≤ q * b → cdiv a b ≤ q := by
  unfold cdiv
  constructor
  · have h := Nat.div_add_mod (a + b - 1) b
    have hm := Nat.mod_lt (a + b - 1) hb
    rw [Nat.mul_comm] at h
    omega
  · intro q hq
    rw [← Nat.lt_succ_iff, Nat.div_lt_iff_lt_mul hb, Nat.succ_mul]
    omega

end Sys2Proof.Machine
end

