-- ==== Sys2Proof/Laws/Exec.lean ====
section
/-! SUPPORT. What an instruction's meaning is, by kind: a command at its port, a frame by its action code; and what the
decision of filter and dispatch mux leaves in each field. -/

namespace Sys2Proof.Machine

/-! ## Instructions -/

/-- A frame instruction but BUNDLE_HEADER completes a frame with its action code. -/
theorem exec_frame {i : Instr} {c : Byte} (h : i.code? = some c) (hc : c ≠ 2) (s : State) :
    exec i s = completeFrame c s := by
  cases i <;> simp only [Instr.code?, Option.some.injEq, reduceCtorEq] at h <;> subst h <;>
    first | rfl | exact absurd rfl hc

/-- BUNDLE_HEADER is the only instruction with action code 2. -/
theorem eq_bundleHeader {i : Instr} (h : i.code? = some 2) : i = .bundleHeader := by
  cases i <;> simp_all [Instr.code?]

/-- Any frame instruction at a last fragment completes the bundle with its action code. -/
theorem exec_frame_fbody {i : Instr} {c : Byte} (h : i.code? = some c) {s : State} (hs : s.rx.rs = .fbody) :
    exec i s = completeFrame c s := by
  by_cases hc : c = 2
  · subst hc
    rw [eq_bundleHeader h]
    exact if_pos hs
  · exact exec_frame h hc s

/-- BUNDLE_HEADER at top level starts a bundle. -/
theorem exec_bundleHeader {s : State} (hs : s.rx.rs ≠ .fbody) : exec .bundleHeader s = startBundle s := if_neg hs

/-! ## The decision of filter and dispatch mux -/

/-- Where each decision leaves `rs` (42_dispatch.md R204-R210): EXIT leaves it as it is. -/
def Action.nextRs (x : RxState) : Action → RxState
  | .wait _ _ => .dwait
  | .halt => x
  | .drop => .hdr
  | .rangeFault => .hdr
  | .noop => .hdr
  | .setMult _ => .hdr
  | .setInf => .hdr
  | .rejectMult => .hdr

/-- DISP_INFO after each decision. -/
def Action.nextDisp (c : Byte) (d : DispInfo) : Action → DispInfo
  | .wait k h => ⟨true, k, h, c⟩
  | .halt => d
  | .drop => d
  | .rangeFault => d
  | .noop => d
  | .setMult _ => d
  | .setInf => d
  | .rejectMult => d

/-- TMULT after each decision. -/
def Action.nextTmult (t : TMult) : Action → TMult
  | .setMult q => ⟨q, false⟩
  | .setInf => ⟨t.mult, true⟩
  | .wait _ _ => t
  | .halt => t
  | .drop => t
  | .rangeFault => t
  | .noop => t
  | .rejectMult => t

/-- Does the decision halt the block? -/
def Action.halts : Action → Bool
  | .halt => true
  | .wait _ _ => false
  | .drop => false
  | .rangeFault => false
  | .noop => false
  | .setMult _ => false
  | .setInf => false
  | .rejectMult => false

@[simp] theorem apply_params (x : Action) (c : Byte) (s : State) : (x.apply c s).params = s.params := by cases x <;> rfl

@[simp] theorem apply_cfgerr (x : Action) (c : Byte) (s : State) : (x.apply c s).cfgerr = s.cfgerr := by cases x <;> rfl

@[simp] theorem apply_ackdrop (x : Action) (c : Byte) (s : State) : (x.apply c s).ackdrop = s.ackdrop := by cases x <;> rfl

@[simp] theorem apply_devAddr (x : Action) (c : Byte) (s : State) : (x.apply c s).devAddr = s.devAddr := by cases x <;> rfl

@[simp] theorem apply_bps (x : Action) (c : Byte) (s : State) : (x.apply c s).bps = s.bps := by cases x <;> rfl

@[simp] theorem apply_chunk (x : Action) (c : Byte) (s : State) : (x.apply c s).chunk = s.chunk := by cases x <;> rfl

@[simp] theorem apply_view (x : Action) (c : Byte) (s : State) : (x.apply c s).view = s.view := by cases x <;> rfl

@[simp] theorem apply_slots (x : Action) (c : Byte) (s : State) : (x.apply c s).slots = s.slots := by cases x <;> rfl

@[simp] theorem apply_rxbuf (x : Action) (c : Byte) (s : State) : (x.apply c s).rxbuf = s.rxbuf := by cases x <;> rfl

@[simp] theorem apply_env (x : Action) (c : Byte) (s : State) : (x.apply c s).env = s.env := by cases x <;> rfl

@[simp] theorem apply_rx (x : Action) (c : Byte) (s : State) :
    (x.apply c s).rx = { s.rx with rs := x.nextRs s.rx.rs } := by cases x <;> rfl

@[simp] theorem apply_disp (x : Action) (c : Byte) (s : State) :
    (x.apply c s).disp = x.nextDisp c s.disp := by cases x <;> rfl

@[simp] theorem apply_tmult (x : Action) (c : Byte) (s : State) :
    (x.apply c s).tmult = x.nextTmult s.tmult := by cases x <;> rfl

@[simp] theorem apply_halted (x : Action) (c : Byte) (s : State) :
    (x.apply c s).halted = (x.halts || s.halted) := by cases x <;> rfl

/-- Only EXIT touches the ports and the TX engine. -/
theorem apply_send_side {x : Action} (hx : x.halts = false) (c : Byte) (s : State) :
    (x.apply c s).ports = s.ports ∧ (x.apply c s).tx = s.tx := by cases x <;> first | exact ⟨rfl, rfl⟩ | cases hx

/-! ## The delivery of a frame -/

/-- The state a frame is delivered in: the classified one, with the fragment closed at a last fragment. -/
def classified (s s1 : State) : State := if s.rx.rs = .fbody then closeFragment s s1 else s1

/-- The frame that is delivered. -/
def theFrame (c : Byte) (s : State) : Frame := if s.rx.rs = .fbody then bundleFrame c s else topFrame c s

/-- A frame's completion in one form for both of its kinds. -/
theorem completeFrame_next {c : Byte} {s t : State} :
    completeFrame c s = .next t ↔
      ∃ s1, classify s = .next s1 ∧
        t = (frameAction (theFrame c s) (classified s s1)).apply c ((classified s s1).viewFrame (theFrame c s)) := by
  rw [completeFrame_eq_next]
  refine exists_congr fun s1 => and_congr_right fun _ => ?_
  by_cases h : s.rx.rs = .fbody
  · simp [h, deliver, classified, theFrame, bundleFrame]
  · simp [h, deliver, classified, theFrame, topFrame]

/-- The decision is drawn from the slot of the dispatch code. -/
theorem frameAction_wait {F : Frame} {s : State} {k : SlotKind} {h : Byte} (ha : frameAction F s = .wait k h) :
    (k = .text ∧ h = 0 ∧ s.slot? F.code.toNat = some .text) ∨
      (k = .ext ∧ s.slot? F.code.toNat = some (.ext h)) := by
  rcases frameAction_cases F s with ⟨_, e⟩ | ⟨_, _, e⟩ | ⟨x, _, hx, e⟩ <;> rw [e] at ha
  · cases ha
  · cases ha
  · cases x with
    | placeholder => cases ha
    | text => cases ha; exact .inl ⟨rfl, rfl, hx⟩
    | mult => simp only [slotAction] at ha; split at ha <;> cases ha
    | exit => cases ha
    | ext h' => cases ha; exact .inr ⟨rfl, hx⟩

end Sys2Proof.Machine
end

