-- ==== Sys2Proof/Laws/Memory.lean ====
section
/-! SUPPORT. Buffers: read after write, and the canonical form every operation keeps. -/

namespace Sys2Proof.Machine

/-- Reading after a write: the written byte at its offset, the old contents elsewhere. -/
theorem memRead_memWrite {m : Memory} (h : m.Pairwise fun x y => x.1 < y.1) (a o : Nat) (b : Byte) :
    memRead (memWrite m a b) o = if o = a then some b else memRead m o := by
  induction m with
  | nil => simp [memRead, memWrite, eq_comm]
  | cons x m ih =>
    obtain ⟨k, v⟩ := x
    have ht := ih (List.pairwise_cons.1 h).2
    have hk : ∀ c ∈ m, k < c.1 := (List.pairwise_cons.1 h).1
    by_cases h1 : a < k
    · by_cases ho : o = a
      · simp [memWrite, h1, memRead, ho]
      · have : a ≠ o := fun e => ho e.symm
        simp [memWrite, h1, memRead, ho, this]
    · by_cases h2 : a = k
      · subst h2
        by_cases ho : o = a
        · simp [memWrite, memRead, ho]
        · have : a ≠ o := fun e => ho e.symm
          simp [memWrite, memRead, ho, this]
      · by_cases ho : k = o
        · subst ho
          have : k ≠ a := fun e => h2 e.symm
          simp [memWrite, h1, h2, memRead, this]
        · simp [memWrite, h1, h2, memRead, ho, ht]

/-- A write lists no offset but the old ones and its own. -/
theorem mem_memWrite {m : Memory} {a : Nat} {b : Byte} {c : Host.Cell} (h : c ∈ memWrite m a b) :
    c = (a, b) ∨ c ∈ m := by
  induction m with
  | nil => simpa [memWrite] using h
  | cons x m ih =>
    obtain ⟨k, v⟩ := x
    simp only [memWrite] at h
    split at h
    · simpa using h
    · split at h
      · rcases List.mem_cons.1 h with h | h
        · exact .inl h
        · exact .inr (List.mem_cons_of_mem _ h)
      · rcases List.mem_cons.1 h with h | h
        · exact .inr (h ▸ List.mem_cons_self)
        · rcases ih h with h | h
          · exact .inl h
          · exact .inr (List.mem_cons_of_mem _ h)

/-- A write keeps the offsets strictly rising. -/
theorem memWrite_rising {m : Memory} (h : m.Pairwise fun x y => x.1 < y.1) (a : Nat) (b : Byte) :
    (memWrite m a b).Pairwise fun x y => x.1 < y.1 := by
  induction m with
  | nil => simp [memWrite]
  | cons x m ih =>
    obtain ⟨k, v⟩ := x
    have hk : ∀ c ∈ m, k < c.1 := (List.pairwise_cons.1 h).1
    have hm := (List.pairwise_cons.1 h).2
    simp only [memWrite]
    split
    · rename_i h1
      refine List.pairwise_cons.2 ⟨?_, h⟩
      intro c hc
      rcases List.mem_cons.1 hc with hc | hc
      · rw [hc]; exact h1
      · exact h1.trans (hk c hc)
    · split
      · rename_i h1 h2
        exact List.pairwise_cons.2 ⟨fun c hc => h2 ▸ hk c hc, hm⟩
      · rename_i h1 h2
        refine List.pairwise_cons.2 ⟨?_, ih hm⟩
        intro c hc
        rcases mem_memWrite hc with hc | hc
        · rw [hc]; change k < a; omega
        · exact hk c hc

/-- A write inside the buffer keeps its form. -/
theorem memWrite_wf {m : Memory} (h : m.wf) {a : Nat} (ha : a < maxPayload) (b : Byte) : (memWrite m a b).wf := by
  refine ⟨memWrite_rising h.1 a b, fun c hc => ?_⟩
  rcases mem_memWrite hc with hc | hc
  · rw [hc]; exact ha
  · exact h.2 c hc

/-- A fill inside the buffer keeps its form. -/
theorem memFill_wf {m : Memory} (h : m.wf) {a n : Nat} (ha : a + n ≤ maxPayload) (b : Byte) : (memFill m a n b).wf := by
  induction n generalizing m a with
  | zero => exact h
  | succ n ih => exact ih (memWrite_wf h (by omega) b) (by omega)

/-- A fill keeps the offsets strictly rising. -/
theorem memFill_rising {m : Memory} (h : m.Pairwise fun x y => x.1 < y.1) (a n : Nat) (b : Byte) :
    (memFill m a n b).Pairwise fun x y => x.1 < y.1 := by
  induction n generalizing m a with
  | zero => exact h
  | succ n ih => exact ih (memWrite_rising h a b) (a + 1)

/-- Reading after a fill: the filler in its range, the old contents elsewhere. -/
theorem memRead_memFill {m : Memory} (h : m.Pairwise fun x y => x.1 < y.1) (a n o : Nat) (b : Byte) :
    memRead (memFill m a n b) o = if a ≤ o ∧ o < a + n then some b else memRead m o := by
  induction n generalizing m a with
  | zero => rw [memFill, if_neg (by omega)]
  | succ n ih =>
    rw [memFill, ih (memWrite_rising h a b) (a + 1), memRead_memWrite h]
    by_cases h1 : a + 1 ≤ o ∧ o < a + 1 + n
    · rw [if_pos h1, if_pos (by omega)]
    · rw [if_neg h1]
      by_cases h2 : o = a
      · rw [if_pos h2, if_pos (by omega)]
      · rw [if_neg h2, if_neg (by omega)]

/-- A lane write keeps the buffer's form. -/
theorem writeLane_wf {m : Memory} (h : m.wf) (o : Nat) (w : Word) (strb : BitVec 4) (k : Nat) :
    (writeLane o w strb k m).wf := by
  unfold writeLane
  split
  · rename_i hk; exact memWrite_wf h hk.2 _
  · exact h

/-- A window write keeps the buffer's form. -/
theorem writeLanes_wf {m : Memory} (h : m.wf) (o : Nat) (w : Word) (strb : BitVec 4) : (writeLanes o w strb m).wf :=
  writeLane_wf (writeLane_wf (writeLane_wf (writeLane_wf h o w strb 0) o w strb 1) o w strb 2) o w strb 3

end Sys2Proof.Machine
end

