-- ==== Sys2Proof/Laws/Cycle.lean ====
section
/-! SUPPORT. What each agent's part of a cycle can change, and how a step is made of them. -/

namespace Sys2Proof.Machine

/-! ## Decoding in the machine -/

/-- A PCMD word decodes to a command of its port. -/
theorem decodeCommand_source (p : Nat) (w : Word) : (decodeCommand p w).source = .pcmd p := by
  unfold decodeCommand
  repeat' split
  all_goals rfl

/-- The frame instruction of an action code has that action code. -/
theorem code_decodeCode : ∀ c : Byte, (decodeCode c).code? = some c := by decide +kernel

/-! ## Frames -/

/-- A frame that fits RXBUF is classified. -/
theorem classify_next {s : State} (h : bodyBase s + s.rx.cur.len.toNat ≤ maxPayload) : ∃ t, classify s = .next t := by
  unfold classify
  split
  · rw [if_neg (by omega)]
    exact ⟨_, rfl⟩
  · exact ⟨_, rfl⟩

/-- Classification pads the body. -/
theorem classify_padded {s t : State} (h : classify s = .next t) (hm : s.rxbuf.wf) : PaddedBody s t := by
  intro o
  rcases classify_eq_next.1 h with ⟨hb, rfl⟩ | ⟨hb, _, rfl⟩
  · have : ¬ t.rx.bcnt < t.rx.cur.len.toNat := by simpa [isBroken] using hb
    rw [if_neg (by omega)]
  · have : s.rx.bcnt < s.rx.cur.len.toNat := by simpa [isBroken] using hb
    rw [memRead_memFill hm.1]
    have e : bodyBase s + s.rx.bcnt + (s.rx.cur.len.toNat - s.rx.bcnt) = bodyBase s + s.rx.cur.len.toNat := by omega
    rw [e]

/-- What the RX engine's part of a cycle never writes, beside the environment record: it owns everything else. -/
structure RxFrame (s t : State) : Prop where
  params : t.params = s.params
  cfgerr : t.cfgerr = s.cfgerr
  ackdrop : t.ackdrop = s.ackdrop
  devAddr : t.devAddr = s.devAddr
  bps : t.bps = s.bps
  chunk : t.chunk = s.chunk
  slots : t.slots = s.slots
  env : t.env = s.env

/-- Nothing done keeps everything. -/
theorem RxFrame.refl (s : State) : RxFrame s s := ⟨rfl, rfl, rfl, rfl, rfl, rfl, rfl, rfl⟩

/-- Classification is within the RX engine's frame. -/
theorem classify_rxFrame {s t : State} (h : classify s = .next t) : RxFrame s t := by
  rw [classify_frame h]
  exact ⟨rfl, rfl, rfl, rfl, rfl, rfl, rfl, rfl⟩

/-- The state a frame is delivered in is within it. -/
theorem classified_rxFrame {s s1 : State} (h : classify s = .next s1) : RxFrame s (classified s s1) := by
  have h1 := classify_rxFrame h
  unfold classified
  split
  · exact ⟨h1.params, h1.cfgerr, h1.ackdrop, h1.devAddr, h1.bps, h1.chunk, h1.slots, h1.env⟩
  · exact h1

/-- The completion of a frame is within it. -/
theorem completeFrame_rxFrame {c : Byte} {s t : State} (h : completeFrame c s = .next t) : RxFrame s t := by
  obtain ⟨s1, h1, rfl⟩ := completeFrame_next.1 h
  have h2 := classified_rxFrame h1
  constructor <;> simp [h2.params, h2.cfgerr, h2.ackdrop, h2.devAddr, h2.bps, h2.chunk, h2.slots, h2.env]

/-- A frame instruction is within it. -/
theorem exec_rxFrame {i : Instr} {c : Byte} {s t : State} (hi : i.code? = some c) (h : exec i s = .next t) :
    RxFrame s t := by
  by_cases hf : s.rx.rs = .fbody
  · rw [exec_frame_fbody hi hf] at h
    exact completeFrame_rxFrame h
  · by_cases hc : c = 2
    · subst hc
      rw [eq_bundleHeader hi, exec_bundleHeader hf] at h
      obtain ⟨s1, h1, h2⟩ := andThen_eq_next.1 h
      have := classify_rxFrame h1
      split at h2 <;> cases h2 <;>
        exact ⟨this.params, this.cfgerr, this.ackdrop, this.devAddr, this.bps, this.chunk, this.slots, this.env⟩
    · rw [exec_frame hi hc] at h
      exact completeFrame_rxFrame h

/-- A fragment that is not the last is within it. -/
theorem endFragment_rxFrame {s t : State} (h : endFragment s = .next t) : RxFrame s t := by
  obtain ⟨s1, h1, h2⟩ := andThen_eq_next.1 h
  have := classify_rxFrame h1
  cases h2
  exact ⟨this.params, this.cfgerr, this.ackdrop, this.devAddr, this.bps, this.chunk, this.slots, this.env⟩

/-! ## The RX engine -/

/-- A header cycle writes the RX engine alone. -/
theorem headerCycle_frame (inp : Input) (s : State) : headerCycle inp s = { s with rx := (headerCycle inp s).rx } := by
  unfold headerCycle
  split
  · rfl
  · split
    · unfold takeHeaderByte headerComplete
      split <;> rfl
    · rfl

/-- A reading body cycle: the read task ends, a byte is stored within RXBUF, or time passes. -/
theorem readBody_eq_next {inp : Input} {s t : State} :
    readBody inp s = .next t ↔
      (inp.rxFault = true ∧ t = s.setRs .dead) ∨
      (inp.rxFault = false ∧ inp.rxValid = true ∧ bodyBase s + s.rx.bcnt < maxPayload ∧
        t = { s with
          rxbuf := memWrite s.rxbuf (bodyBase s + s.rx.bcnt) inp.rxData
          rx := { s.rx with bcnt := s.rx.bcnt + 1, e := s.rx.e + 1 } }) ∨
      (inp.rxFault = false ∧ inp.rxValid = false ∧ t = { s with rx := { s.rx with e := s.rx.e + 1 } }) := by
  unfold readBody
  cases inp.rxFault <;> cases inp.rxValid <;> simp [eq_comm]
  split <;> simp_all

/-- A body cycle is within the RX engine's frame. -/
theorem bodyCycle_rxFrame {inp : Input} {s t : State} (h : bodyCycle inp s = .next t) : RxFrame s t := by
  unfold bodyCycle at h
  split at h
  · unfold classifyCycle at h
    split at h
    · exact exec_rxFrame (code_decodeCode _) h
    · exact endFragment_rxFrame h
  · rcases readBody_eq_next.1 h with ⟨_, rfl⟩ | ⟨_, _, _, rfl⟩ | ⟨_, _, rfl⟩ <;>
      exact ⟨rfl, rfl, rfl, rfl, rfl, rfl, rfl, rfl⟩

/-- The RX engine's own step is within its frame. -/
theorem rxStep_rxFrame {inp : Input} {s t : State} (h : rxStep inp s = .next t) : RxFrame s t := by
  unfold rxStep at h
  split at h
  · cases h
    rw [headerCycle_frame]
    exact ⟨rfl, rfl, rfl, rfl, rfl, rfl, rfl, rfl⟩
  · cases h
    rw [headerCycle_frame]
    exact ⟨rfl, rfl, rfl, rfl, rfl, rfl, rfl, rfl⟩
  · exact bodyCycle_rxFrame h
  · exact bodyCycle_rxFrame h
  · cases h
    exact RxFrame.refl s
  · cases h
    exact RxFrame.refl s

/-- The RX engine's part of a cycle is within its frame. -/
theorem rxCycle_rxFrame {inp : Input} {s t : State} (h : rxCycle inp s = .next t) : RxFrame s t := by
  obtain ⟨r, h1, h2⟩ := andThen_eq_next.1 h
  have h3 := rxStep_rxFrame h1
  cases h2
  split
  · exact ⟨by simp [h3.params], by simp [h3.cfgerr], by simp [h3.ackdrop], by simp [h3.devAddr], by simp [h3.bps],
      by simp [h3.chunk], by simp [h3.slots], by simp [h3.env]⟩
  · exact h3

/-- The completing frame's body read is over and a body is read. -/
theorem completing_some {s : State} {c : Byte} (h : completing s = some c) :
    bodyOver s = true ∧
      ((s.rx.rs = .body ∧ c = s.rx.cur.code) ∨
        (s.rx.rs = .fbody ∧ s.rx.fidx + 1 = s.rx.nfrag ∧ c = bundleCode s)) := by
  unfold completing at h
  split at h
  · cases h
  · rename_i ho
    refine ⟨by simpa using ho, ?_⟩
    split at h
    · rename_i hr
      cases h
      exact .inl ⟨hr, rfl⟩
    · rename_i hr
      split at h
      · rename_i hn
        cases h
        exact .inr ⟨hr, hn, rfl⟩
      · cases h
    · cases h

/-- In its completion cycle a frame's instruction runs. -/
theorem rxStep_completing {s : State} {c : Byte} (h : completing s = some c) (inp : Input) :
    rxStep inp s = exec (decodeCode c) s := by
  have hb : bodyCycle inp s = exec (decodeCode c) s := by
    unfold bodyCycle classifyCycle
    rw [if_pos (completing_some h).1, h]
  rw [← hb]
  rcases (completing_some h).2 with ⟨hr, _⟩ | ⟨hr, _⟩ <;> unfold rxStep <;> rw [hr]

/-! ## The TX engine -/

/-- The port the arbiter grants exists and waits. -/
theorem nextGrant_some {s : State} {p : Nat} (h : nextGrant s = some p) : p < s.params.nport ∧ s.pst p = .waitlock := by
  unfold nextGrant grantOrder at h
  have h1 := List.find?_some h
  have h2 := List.mem_of_find?_eq_some h
  simp at h1 h2
  obtain ⟨k, hk, rfl⟩ := h2
  exact ⟨Nat.mod_lt _ (by omega), h1⟩

/-- A SEND cycle that answers: the write failure, the transfer, or the wait for the channel, with a byte to offer. -/
theorem sendCycle_eq_next {inp : Input} {pre s t : State} :
    sendCycle inp pre s = .next t ↔ pre.tx.pos < pre.tx.total ∧
      ((inp.txFault = true ∧ t = endSend pre s .txFault pre.tx.pos) ∨
        (inp.txFault = false ∧ inp.txReady = true ∧ t = { s with tx := txAdvance pre }) ∨
        (inp.txFault = false ∧ inp.txReady = false ∧ t = s)) := by
  unfold sendCycle
  by_cases h : pre.tx.pos ≥ pre.tx.total
  · simp [h, Nat.not_lt.2 h]
  · rw [if_neg h]
    cases inp.txFault <;> cases inp.txReady <;> simp [Nat.lt_of_not_le h, eq_comm]

/-- The TX engine's part of a cycle writes the TX engine and the ports alone. -/
theorem txCycle_frame {inp : Input} {s h a : State} (hx : txCycle inp s h = .next a) :
    a = { h with tx := a.tx, ports := a.ports } := by
  unfold txCycle at hx
  split at hx
  · cases hx
    unfold grantCycle
    split <;> rfl
  · rcases (sendCycle_eq_next.1 hx).2 with ⟨_, rfl⟩ | ⟨_, _, rfl⟩ | ⟨_, _, rfl⟩ <;> rfl
  · cases hx
    unfold paceCycle
    split
    · split <;> rfl
    · rfl

/-- Where a pacing wait is at least one cycle long. -/
theorem paceCycles_pos {c n b : Nat} (hc : 1 ≤ c) (hn : 1 ≤ n) (hb : b ≠ 0) : 1 ≤ paceCycles c n b := by
  unfold paceCycles cdiv
  rw [Nat.one_le_div_iff (by omega)]
  have : 1 ≤ 8 * n * c := Nat.mul_pos (by omega) hc
  omega

/-! ## The host bus -/

/-- The update of an existing port replaces it. -/
theorem updPort_eq_withPort {s : State} {p : Nat} {P : Port} (h : s.ports[p]? = some P) (f : Port → Port) :
    s.updPort p f = s.withPort p (f P) := by
  have e : s.ports.modify p f = s.ports.set p (f P) := by
    apply List.ext_getElem?
    intro q
    rw [List.getElem?_modify, List.getElem?_set]
    by_cases hq : p = q
    · subst hq
      obtain ⟨hl, e⟩ := List.getElem?_eq_some_iff.1 h
      simp [hl, e]
    · simp [hq]
  unfold State.updPort State.withPort
  rw [e]

/-- A command writes the slot table and the ports alone. -/
theorem exec_command_frame {i : Instr} {p : Nat} {s t : State} (hi : i.source = .pcmd p) (h : exec i s = .next t) :
    t = { s with slots := t.slots, ports := t.ports } := by
  cases i <;> simp only [Instr.source, reduceCtorEq, Source.pcmd.injEq] at hi <;> subst hi
  all_goals
    obtain ⟨P, hP, h1⟩ := onIdlePort_eq_next.1 h
    rcases h1 with ⟨_, rfl⟩ | ⟨_, rfl⟩
    case inr => rfl
  · split <;> rfl
  · split <;> rfl
  · split
    · rfl
    · split
      · rfl
      · split <;> rfl
  · split
    · rfl
    · split <;> rfl
  · split <;> rfl
  · rfl

/-- What the host bus's part of a cycle writes: the configuration, the sticky bits, the slot table and the ports. -/
theorem hostCycle_frame {inp : Input} {s h : State} (hx : hostCycle inp s = .next h) :
    h = { s with
      cfgerr := h.cfgerr, ackdrop := h.ackdrop, devAddr := h.devAddr, tmult := h.tmult, bps := h.bps
      chunk := h.chunk, slots := h.slots, ports := h.ports } := by
  unfold hostCycle at hx
  split at hx
  · generalize Input.target inp s = tgt at hx
    unfold busWrite at hx
    split at hx
    · cases hx
      split
      · rename_i r _
        cases r <;> simp only [writeGlobal] <;> (try split) <;> rfl
      · rfl
    · rename_i p r
      split at hx
      · cases r <;> simp only [writePort] at hx
        case pcmd =>
          have := exec_command_frame (decodeCommand_source p _) hx
          rw [this]
        all_goals
          cases hx
          rfl
      · cases hx
        rfl
    all_goals
      cases hx
      rfl
  · cases hx
    rfl

/-- What a full-word write reaches. -/
theorem WritesWord.target {s : State} {inp : Input} {a : Nat} {w : Word} (h : WritesWord inp a w) :
    Input.target inp s = busTarget s.params.nport a := by
  unfold Input.target
  rw [h.2.2.2.1]

/-- The host bus's part of a cycle with a full-word write. -/
theorem WritesWord.hostCycle {s : State} {inp : Input} {a : Nat} {w : Word} (h : WritesWord inp a w) :
    hostCycle inp s = busWrite w 0b1111 s (busTarget s.params.nport a) := by
  unfold Machine.hostCycle
  rw [if_pos ⟨h.1, h.2.1⟩, h.target, h.2.2.1, h.2.2.2.2]

/-! ## The joined cycle -/

@[simp] theorem joinAgents_rx (s a r : State) : (joinAgents s a r).rx = r.rx := by
  unfold joinAgents
  split <;> simp

@[simp] theorem joinAgents_slots (s a r : State) : (joinAgents s a r).slots = a.slots := by
  unfold joinAgents
  split <;> simp

@[simp] theorem joinAgents_params (s a r : State) : (joinAgents s a r).params = a.params := by
  unfold joinAgents
  split <;> simp

@[simp] theorem joinAgents_rxbuf (s a r : State) : (joinAgents s a r).rxbuf = r.rxbuf := by
  unfold joinAgents
  split <;> simp

@[simp] theorem joinAgents_disp (s a r : State) : (joinAgents s a r).disp = r.disp := by
  unfold joinAgents
  split <;> simp

/-- The block halts in a cycle exactly where the RX engine's frame halts it. -/
theorem joinAgents_halted {s a r : State} (ha : a.halted = false) : (joinAgents s a r).halted = r.halted := by
  unfold joinAgents
  split <;> rename_i h
  · simp [h]
  · simp [ha]
    simpa using h

/-- What a step is: a reset cycle, a HALTED cycle, or the agents' parts of a cycle joined. -/
theorem step_eq_next {s t : State} :
    step s = .next t ↔
      ((nextInput s).rst = true ∧ t = resetCycle (nextInput s) s) ∨
      ((nextInput s).rst = false ∧ s.halted = true ∧
        t = { s with env := s.env.advance (outputs (nextInput s) s) }) ∨
      ((nextInput s).rst = false ∧ s.halted = false ∧ ∃ h a r,
        hostCycle (nextInput s) s = .next h ∧ txCycle (nextInput s) s h = .next a ∧
        rxCycle (nextInput s) s = .next r ∧
        t = { joinAgents s a r with env := s.env.advance (outputs (nextInput s) s) }) := by
  unfold step cycle
  simp only
  cases hr : (nextInput s).rst with
  | true => simpa using ⟨Eq.symm, Eq.symm⟩
  | false =>
    cases hh : s.halted with
    | true => simpa using ⟨Eq.symm, Eq.symm⟩
    | false =>
      simp only [Bool.false_eq_true, ↓reduceIte, activeCycle, andThen_eq_next, false_and, true_and, false_or,
        Host.Outcome.next.injEq]
      constructor
      · rintro ⟨u, ⟨h, e1, a, e2, r, e3, rfl⟩, rfl⟩
        exact ⟨h, a, r, e1, e2, e3, rfl⟩
      · rintro ⟨h, a, r, e1, e2, e3, rfl⟩
        exact ⟨_, ⟨h, e1, a, e2, r, e3, rfl⟩, rfl⟩

end Sys2Proof.Machine
end

