-- ==== Sys2Proof/Laws/PerInstr.lean ====
section
/-! SUPPORT. The encoding round trip of each instruction: its word, read from its source, decodes to it and to the
operands it was encoded with. -/

namespace Sys2Proof.Laws.EncodingRoundTrip

/-- Every encoding of a well-formed instruction decodes to the instruction and its operands. -/
def Statement (i : Instr) : Prop :=
  ∀ (nport : Nat) (f : HeaderFields), i.wellFormed nport = true → i.carries f = true →
    decodeWord i.source (i.encode f) = (i, f)

/-- A command decodes from the word that names it. -/
theorem command {i : Instr} {p : Nat} (hs : i.source = .pcmd p)
    (hd : ∀ f nport, i.wellFormed nport = true → decodeCommand p (i.encode f) = i) : Statement i := by
  intro nport f hw hc
  rw [hs, carries_pcmd hs hc]
  simp [decodeWord, hd _ nport hw]

/-- A frame decodes from the header with its action code. -/
theorem frame {i : Instr} {c : Byte} (hs : i.source = .wire) (he : ∀ f, i.encode f = (f.header c).word)
    (hd : decodeCode c = i) : Statement i := by
  intro nport f _ _
  rw [hs, he, decodeWord_wire, hd]

theorem sendMsg (p : Nat) : Statement (.sendMsg p) := command rfl fun _ _ _ => rfl

theorem sendBundle (p : Nat) : Statement (.sendBundle p) := command rfl fun _ _ _ => rfl

theorem bind (p : Nat) : Statement (.bind p) := command rfl fun _ _ _ => rfl

theorem unbind (p : Nat) : Statement (.unbind p) := command rfl fun _ _ _ => rfl

theorem isUsed (p : Nat) : Statement (.isUsed p) := command rfl fun _ _ _ => rfl

theorem badCommand (p : Nat) (w : Word) : Statement (.badCommand p w) := by
  refine command rfl fun f nport hw => ?_
  simp only [Instr.wellFormed, legalCommandWord, Bool.and_eq_true, Bool.not_eq_true', Bool.or_eq_false_iff,
    beq_eq_false_iff_ne, ne_eq] at hw
  obtain ⟨_, ⟨⟨⟨h1, h2⟩, h3⟩, h4⟩, h5⟩ := hw
  exact (if_neg h1).trans ((if_neg h2).trans ((if_neg h3).trans ((if_neg h4).trans (if_neg h5))))

theorem reserved0 : Statement .reserved0 := frame (c := 0) rfl (fun _ => rfl) rfl

theorem text : Statement .text := frame (c := 1) rfl (fun _ => rfl) rfl

theorem bundleHeader : Statement .bundleHeader := frame (c := 2) rfl (fun _ => rfl) rfl

theorem mult : Statement .mult := frame (c := 3) rfl (fun _ => rfl) rfl

theorem reserved4 : Statement .reserved4 := frame (c := 4) rfl (fun _ => rfl) rfl

theorem exit : Statement .exit := frame (c := 5) rfl (fun _ => rfl) rfl

theorem reserved6 : Statement .reserved6 := frame (c := 6) rfl (fun _ => rfl) rfl

theorem reserved7 : Statement .reserved7 := frame (c := 7) rfl (fun _ => rfl) rfl

theorem reserved8 : Statement .reserved8 := frame (c := 8) rfl (fun _ => rfl) rfl

theorem reserved9 : Statement .reserved9 := frame (c := 9) rfl (fun _ => rfl) rfl

theorem reserved10 : Statement .reserved10 := frame (c := 10) rfl (fun _ => rfl) rfl

theorem reserved11 : Statement .reserved11 := frame (c := 11) rfl (fun _ => rfl) rfl

theorem reserved12 : Statement .reserved12 := frame (c := 12) rfl (fun _ => rfl) rfl

theorem reserved13 : Statement .reserved13 := frame (c := 13) rfl (fun _ => rfl) rfl

theorem reserved14 : Statement .reserved14 := frame (c := 14) rfl (fun _ => rfl) rfl

theorem reserved15 : Statement .reserved15 := frame (c := 15) rfl (fun _ => rfl) rfl

theorem reserved16 : Statement .reserved16 := frame (c := 16) rfl (fun _ => rfl) rfl

theorem reserved17 : Statement .reserved17 := frame (c := 17) rfl (fun _ => rfl) rfl

theorem reserved18 : Statement .reserved18 := frame (c := 18) rfl (fun _ => rfl) rfl

theorem reserved19 : Statement .reserved19 := frame (c := 19) rfl (fun _ => rfl) rfl

theorem reserved20 : Statement .reserved20 := frame (c := 20) rfl (fun _ => rfl) rfl

theorem reserved21 : Statement .reserved21 := frame (c := 21) rfl (fun _ => rfl) rfl

theorem reserved22 : Statement .reserved22 := frame (c := 22) rfl (fun _ => rfl) rfl

theorem reserved23 : Statement .reserved23 := frame (c := 23) rfl (fun _ => rfl) rfl

theorem reserved24 : Statement .reserved24 := frame (c := 24) rfl (fun _ => rfl) rfl

theorem reserved25 : Statement .reserved25 := frame (c := 25) rfl (fun _ => rfl) rfl

theorem reserved26 : Statement .reserved26 := frame (c := 26) rfl (fun _ => rfl) rfl

theorem reserved27 : Statement .reserved27 := frame (c := 27) rfl (fun _ => rfl) rfl

theorem reserved28 : Statement .reserved28 := frame (c := 28) rfl (fun _ => rfl) rfl

theorem reserved29 : Statement .reserved29 := frame (c := 29) rfl (fun _ => rfl) rfl

theorem reserved30 : Statement .reserved30 := frame (c := 30) rfl (fun _ => rfl) rfl

theorem reserved31 : Statement .reserved31 := frame (c := 31) rfl (fun _ => rfl) rfl

theorem user32 : Statement .user32 := frame (c := 32) rfl (fun _ => rfl) rfl

theorem user33 : Statement .user33 := frame (c := 33) rfl (fun _ => rfl) rfl

theorem user34 : Statement .user34 := frame (c := 34) rfl (fun _ => rfl) rfl

theorem user35 : Statement .user35 := frame (c := 35) rfl (fun _ => rfl) rfl

theorem user36 : Statement .user36 := frame (c := 36) rfl (fun _ => rfl) rfl

theorem user37 : Statement .user37 := frame (c := 37) rfl (fun _ => rfl) rfl

theorem user38 : Statement .user38 := frame (c := 38) rfl (fun _ => rfl) rfl

theorem user39 : Statement .user39 := frame (c := 39) rfl (fun _ => rfl) rfl

theorem user40 : Statement .user40 := frame (c := 40) rfl (fun _ => rfl) rfl

theorem user41 : Statement .user41 := frame (c := 41) rfl (fun _ => rfl) rfl

theorem user42 : Statement .user42 := frame (c := 42) rfl (fun _ => rfl) rfl

theorem user43 : Statement .user43 := frame (c := 43) rfl (fun _ => rfl) rfl

theorem user44 : Statement .user44 := frame (c := 44) rfl (fun _ => rfl) rfl

theorem user45 : Statement .user45 := frame (c := 45) rfl (fun _ => rfl) rfl

theorem user46 : Statement .user46 := frame (c := 46) rfl (fun _ => rfl) rfl

theorem user47 : Statement .user47 := frame (c := 47) rfl (fun _ => rfl) rfl

theorem user48 : Statement .user48 := frame (c := 48) rfl (fun _ => rfl) rfl

theorem user49 : Statement .user49 := frame (c := 49) rfl (fun _ => rfl) rfl

theorem user50 : Statement .user50 := frame (c := 50) rfl (fun _ => rfl) rfl

theorem user51 : Statement .user51 := frame (c := 51) rfl (fun _ => rfl) rfl

theorem user52 : Statement .user52 := frame (c := 52) rfl (fun _ => rfl) rfl

theorem user53 : Statement .user53 := frame (c := 53) rfl (fun _ => rfl) rfl

theorem user54 : Statement .user54 := frame (c := 54) rfl (fun _ => rfl) rfl

theorem user55 : Statement .user55 := frame (c := 55) rfl (fun _ => rfl) rfl

theorem user56 : Statement .user56 := frame (c := 56) rfl (fun _ => rfl) rfl

theorem user57 : Statement .user57 := frame (c := 57) rfl (fun _ => rfl) rfl

theorem user58 : Statement .user58 := frame (c := 58) rfl (fun _ => rfl) rfl

theorem user59 : Statement .user59 := frame (c := 59) rfl (fun _ => rfl) rfl

theorem user60 : Statement .user60 := frame (c := 60) rfl (fun _ => rfl) rfl

theorem user61 : Statement .user61 := frame (c := 61) rfl (fun _ => rfl) rfl

theorem user62 : Statement .user62 := frame (c := 62) rfl (fun _ => rfl) rfl

theorem user63 : Statement .user63 := frame (c := 63) rfl (fun _ => rfl) rfl

theorem user64 : Statement .user64 := frame (c := 64) rfl (fun _ => rfl) rfl

theorem user65 : Statement .user65 := frame (c := 65) rfl (fun _ => rfl) rfl

theorem user66 : Statement .user66 := frame (c := 66) rfl (fun _ => rfl) rfl

theorem user67 : Statement .user67 := frame (c := 67) rfl (fun _ => rfl) rfl

theorem user68 : Statement .user68 := frame (c := 68) rfl (fun _ => rfl) rfl

theorem user69 : Statement .user69 := frame (c := 69) rfl (fun _ => rfl) rfl

theorem user70 : Statement .user70 := frame (c := 70) rfl (fun _ => rfl) rfl

theorem user71 : Statement .user71 := frame (c := 71) rfl (fun _ => rfl) rfl

theorem user72 : Statement .user72 := frame (c := 72) rfl (fun _ => rfl) rfl

theorem user73 : Statement .user73 := frame (c := 73) rfl (fun _ => rfl) rfl

theorem user74 : Statement .user74 := frame (c := 74) rfl (fun _ => rfl) rfl

theorem user75 : Statement .user75 := frame (c := 75) rfl (fun _ => rfl) rfl

theorem user76 : Statement .user76 := frame (c := 76) rfl (fun _ => rfl) rfl

theorem user77 : Statement .user77 := frame (c := 77) rfl (fun _ => rfl) rfl

theorem user78 : Statement .user78 := frame (c := 78) rfl (fun _ => rfl) rfl

theorem user79 : Statement .user79 := frame (c := 79) rfl (fun _ => rfl) rfl

theorem user80 : Statement .user80 := frame (c := 80) rfl (fun _ => rfl) rfl

theorem user81 : Statement .user81 := frame (c := 81) rfl (fun _ => rfl) rfl

theorem user82 : Statement .user82 := frame (c := 82) rfl (fun _ => rfl) rfl

theorem user83 : Statement .user83 := frame (c := 83) rfl (fun _ => rfl) rfl

theorem user84 : Statement .user84 := frame (c := 84) rfl (fun _ => rfl) rfl

theorem user85 : Statement .user85 := frame (c := 85) rfl (fun _ => rfl) rfl

theorem user86 : Statement .user86 := frame (c := 86) rfl (fun _ => rfl) rfl

theorem user87 : Statement .user87 := frame (c := 87) rfl (fun _ => rfl) rfl

theorem user88 : Statement .user88 := frame (c := 88) rfl (fun _ => rfl) rfl

theorem user89 : Statement .user89 := frame (c := 89) rfl (fun _ => rfl) rfl

theorem user90 : Statement .user90 := frame (c := 90) rfl (fun _ => rfl) rfl

theorem user91 : Statement .user91 := frame (c := 91) rfl (fun _ => rfl) rfl

theorem user92 : Statement .user92 := frame (c := 92) rfl (fun _ => rfl) rfl

theorem user93 : Statement .user93 := frame (c := 93) rfl (fun _ => rfl) rfl

theorem user94 : Statement .user94 := frame (c := 94) rfl (fun _ => rfl) rfl

theorem user95 : Statement .user95 := frame (c := 95) rfl (fun _ => rfl) rfl

theorem user96 : Statement .user96 := frame (c := 96) rfl (fun _ => rfl) rfl

theorem user97 : Statement .user97 := frame (c := 97) rfl (fun _ => rfl) rfl

theorem user98 : Statement .user98 := frame (c := 98) rfl (fun _ => rfl) rfl

theorem user99 : Statement .user99 := frame (c := 99) rfl (fun _ => rfl) rfl

theorem user100 : Statement .user100 := frame (c := 100) rfl (fun _ => rfl) rfl

theorem user101 : Statement .user101 := frame (c := 101) rfl (fun _ => rfl) rfl

theorem user102 : Statement .user102 := frame (c := 102) rfl (fun _ => rfl) rfl

theorem user103 : Statement .user103 := frame (c := 103) rfl (fun _ => rfl) rfl

theorem user104 : Statement .user104 := frame (c := 104) rfl (fun _ => rfl) rfl

theorem user105 : Statement .user105 := frame (c := 105) rfl (fun _ => rfl) rfl

theorem user106 : Statement .user106 := frame (c := 106) rfl (fun _ => rfl) rfl

theorem user107 : Statement .user107 := frame (c := 107) rfl (fun _ => rfl) rfl

theorem user108 : Statement .user108 := frame (c := 108) rfl (fun _ => rfl) rfl

theorem user109 : Statement .user109 := frame (c := 109) rfl (fun _ => rfl) rfl

theorem user110 : Statement .user110 := frame (c := 110) rfl (fun _ => rfl) rfl

theorem user111 : Statement .user111 := frame (c := 111) rfl (fun _ => rfl) rfl

theorem user112 : Statement .user112 := frame (c := 112) rfl (fun _ => rfl) rfl

theorem user113 : Statement .user113 := frame (c := 113) rfl (fun _ => rfl) rfl

theorem user114 : Statement .user114 := frame (c := 114) rfl (fun _ => rfl) rfl

theorem user115 : Statement .user115 := frame (c := 115) rfl (fun _ => rfl) rfl

theorem user116 : Statement .user116 := frame (c := 116) rfl (fun _ => rfl) rfl

theorem user117 : Statement .user117 := frame (c := 117) rfl (fun _ => rfl) rfl

theorem user118 : Statement .user118 := frame (c := 118) rfl (fun _ => rfl) rfl

theorem user119 : Statement .user119 := frame (c := 119) rfl (fun _ => rfl) rfl

theorem user120 : Statement .user120 := frame (c := 120) rfl (fun _ => rfl) rfl

theorem user121 : Statement .user121 := frame (c := 121) rfl (fun _ => rfl) rfl

theorem user122 : Statement .user122 := frame (c := 122) rfl (fun _ => rfl) rfl

theorem user123 : Statement .user123 := frame (c := 123) rfl (fun _ => rfl) rfl

theorem user124 : Statement .user124 := frame (c := 124) rfl (fun _ => rfl) rfl

theorem user125 : Statement .user125 := frame (c := 125) rfl (fun _ => rfl) rfl

theorem user126 : Statement .user126 := frame (c := 126) rfl (fun _ => rfl) rfl

theorem user127 : Statement .user127 := frame (c := 127) rfl (fun _ => rfl) rfl

theorem user128 : Statement .user128 := frame (c := 128) rfl (fun _ => rfl) rfl

theorem user129 : Statement .user129 := frame (c := 129) rfl (fun _ => rfl) rfl

theorem user130 : Statement .user130 := frame (c := 130) rfl (fun _ => rfl) rfl

theorem user131 : Statement .user131 := frame (c := 131) rfl (fun _ => rfl) rfl

theorem user132 : Statement .user132 := frame (c := 132) rfl (fun _ => rfl) rfl

theorem user133 : Statement .user133 := frame (c := 133) rfl (fun _ => rfl) rfl

theorem user134 : Statement .user134 := frame (c := 134) rfl (fun _ => rfl) rfl

theorem user135 : Statement .user135 := frame (c := 135) rfl (fun _ => rfl) rfl

theorem user136 : Statement .user136 := frame (c := 136) rfl (fun _ => rfl) rfl

theorem user137 : Statement .user137 := frame (c := 137) rfl (fun _ => rfl) rfl

theorem user138 : Statement .user138 := frame (c := 138) rfl (fun _ => rfl) rfl

theorem user139 : Statement .user139 := frame (c := 139) rfl (fun _ => rfl) rfl

theorem user140 : Statement .user140 := frame (c := 140) rfl (fun _ => rfl) rfl

theorem user141 : Statement .user141 := frame (c := 141) rfl (fun _ => rfl) rfl

theorem user142 : Statement .user142 := frame (c := 142) rfl (fun _ => rfl) rfl

theorem user143 : Statement .user143 := frame (c := 143) rfl (fun _ => rfl) rfl

theorem user144 : Statement .user144 := frame (c := 144) rfl (fun _ => rfl) rfl

theorem user145 : Statement .user145 := frame (c := 145) rfl (fun _ => rfl) rfl

theorem user146 : Statement .user146 := frame (c := 146) rfl (fun _ => rfl) rfl

theorem user147 : Statement .user147 := frame (c := 147) rfl (fun _ => rfl) rfl

theorem user148 : Statement .user148 := frame (c := 148) rfl (fun _ => rfl) rfl

theorem user149 : Statement .user149 := frame (c := 149) rfl (fun _ => rfl) rfl

theorem user150 : Statement .user150 := frame (c := 150) rfl (fun _ => rfl) rfl

theorem user151 : Statement .user151 := frame (c := 151) rfl (fun _ => rfl) rfl

theorem user152 : Statement .user152 := frame (c := 152) rfl (fun _ => rfl) rfl

theorem user153 : Statement .user153 := frame (c := 153) rfl (fun _ => rfl) rfl

theorem user154 : Statement .user154 := frame (c := 154) rfl (fun _ => rfl) rfl

theorem user155 : Statement .user155 := frame (c := 155) rfl (fun _ => rfl) rfl

theorem user156 : Statement .user156 := frame (c := 156) rfl (fun _ => rfl) rfl

theorem user157 : Statement .user157 := frame (c := 157) rfl (fun _ => rfl) rfl

theorem user158 : Statement .user158 := frame (c := 158) rfl (fun _ => rfl) rfl

theorem user159 : Statement .user159 := frame (c := 159) rfl (fun _ => rfl) rfl

theorem user160 : Statement .user160 := frame (c := 160) rfl (fun _ => rfl) rfl

theorem user161 : Statement .user161 := frame (c := 161) rfl (fun _ => rfl) rfl

theorem user162 : Statement .user162 := frame (c := 162) rfl (fun _ => rfl) rfl

theorem user163 : Statement .user163 := frame (c := 163) rfl (fun _ => rfl) rfl

theorem user164 : Statement .user164 := frame (c := 164) rfl (fun _ => rfl) rfl

theorem user165 : Statement .user165 := frame (c := 165) rfl (fun _ => rfl) rfl

theorem user166 : Statement .user166 := frame (c := 166) rfl (fun _ => rfl) rfl

theorem user167 : Statement .user167 := frame (c := 167) rfl (fun _ => rfl) rfl

theorem user168 : Statement .user168 := frame (c := 168) rfl (fun _ => rfl) rfl

theorem user169 : Statement .user169 := frame (c := 169) rfl (fun _ => rfl) rfl

theorem user170 : Statement .user170 := frame (c := 170) rfl (fun _ => rfl) rfl

theorem user171 : Statement .user171 := frame (c := 171) rfl (fun _ => rfl) rfl

theorem user172 : Statement .user172 := frame (c := 172) rfl (fun _ => rfl) rfl

theorem user173 : Statement .user173 := frame (c := 173) rfl (fun _ => rfl) rfl

theorem user174 : Statement .user174 := frame (c := 174) rfl (fun _ => rfl) rfl

theorem user175 : Statement .user175 := frame (c := 175) rfl (fun _ => rfl) rfl

theorem user176 : Statement .user176 := frame (c := 176) rfl (fun _ => rfl) rfl

theorem user177 : Statement .user177 := frame (c := 177) rfl (fun _ => rfl) rfl

theorem user178 : Statement .user178 := frame (c := 178) rfl (fun _ => rfl) rfl

theorem user179 : Statement .user179 := frame (c := 179) rfl (fun _ => rfl) rfl

theorem user180 : Statement .user180 := frame (c := 180) rfl (fun _ => rfl) rfl

theorem user181 : Statement .user181 := frame (c := 181) rfl (fun _ => rfl) rfl

theorem user182 : Statement .user182 := frame (c := 182) rfl (fun _ => rfl) rfl

theorem user183 : Statement .user183 := frame (c := 183) rfl (fun _ => rfl) rfl

theorem user184 : Statement .user184 := frame (c := 184) rfl (fun _ => rfl) rfl

theorem user185 : Statement .user185 := frame (c := 185) rfl (fun _ => rfl) rfl

theorem user186 : Statement .user186 := frame (c := 186) rfl (fun _ => rfl) rfl

theorem user187 : Statement .user187 := frame (c := 187) rfl (fun _ => rfl) rfl

theorem user188 : Statement .user188 := frame (c := 188) rfl (fun _ => rfl) rfl

theorem user189 : Statement .user189 := frame (c := 189) rfl (fun _ => rfl) rfl

theorem user190 : Statement .user190 := frame (c := 190) rfl (fun _ => rfl) rfl

theorem user191 : Statement .user191 := frame (c := 191) rfl (fun _ => rfl) rfl

theorem user192 : Statement .user192 := frame (c := 192) rfl (fun _ => rfl) rfl

theorem user193 : Statement .user193 := frame (c := 193) rfl (fun _ => rfl) rfl

theorem user194 : Statement .user194 := frame (c := 194) rfl (fun _ => rfl) rfl

theorem user195 : Statement .user195 := frame (c := 195) rfl (fun _ => rfl) rfl

theorem user196 : Statement .user196 := frame (c := 196) rfl (fun _ => rfl) rfl

theorem user197 : Statement .user197 := frame (c := 197) rfl (fun _ => rfl) rfl

theorem user198 : Statement .user198 := frame (c := 198) rfl (fun _ => rfl) rfl

theorem user199 : Statement .user199 := frame (c := 199) rfl (fun _ => rfl) rfl

theorem user200 : Statement .user200 := frame (c := 200) rfl (fun _ => rfl) rfl

theorem user201 : Statement .user201 := frame (c := 201) rfl (fun _ => rfl) rfl

theorem user202 : Statement .user202 := frame (c := 202) rfl (fun _ => rfl) rfl

theorem user203 : Statement .user203 := frame (c := 203) rfl (fun _ => rfl) rfl

theorem user204 : Statement .user204 := frame (c := 204) rfl (fun _ => rfl) rfl

theorem user205 : Statement .user205 := frame (c := 205) rfl (fun _ => rfl) rfl

theorem user206 : Statement .user206 := frame (c := 206) rfl (fun _ => rfl) rfl

theorem user207 : Statement .user207 := frame (c := 207) rfl (fun _ => rfl) rfl

theorem user208 : Statement .user208 := frame (c := 208) rfl (fun _ => rfl) rfl

theorem user209 : Statement .user209 := frame (c := 209) rfl (fun _ => rfl) rfl

theorem user210 : Statement .user210 := frame (c := 210) rfl (fun _ => rfl) rfl

theorem user211 : Statement .user211 := frame (c := 211) rfl (fun _ => rfl) rfl

theorem user212 : Statement .user212 := frame (c := 212) rfl (fun _ => rfl) rfl

theorem user213 : Statement .user213 := frame (c := 213) rfl (fun _ => rfl) rfl

theorem user214 : Statement .user214 := frame (c := 214) rfl (fun _ => rfl) rfl

theorem user215 : Statement .user215 := frame (c := 215) rfl (fun _ => rfl) rfl

theorem user216 : Statement .user216 := frame (c := 216) rfl (fun _ => rfl) rfl

theorem user217 : Statement .user217 := frame (c := 217) rfl (fun _ => rfl) rfl

theorem user218 : Statement .user218 := frame (c := 218) rfl (fun _ => rfl) rfl

theorem user219 : Statement .user219 := frame (c := 219) rfl (fun _ => rfl) rfl

theorem user220 : Statement .user220 := frame (c := 220) rfl (fun _ => rfl) rfl

theorem user221 : Statement .user221 := frame (c := 221) rfl (fun _ => rfl) rfl

theorem user222 : Statement .user222 := frame (c := 222) rfl (fun _ => rfl) rfl

theorem user223 : Statement .user223 := frame (c := 223) rfl (fun _ => rfl) rfl

theorem user224 : Statement .user224 := frame (c := 224) rfl (fun _ => rfl) rfl

theorem user225 : Statement .user225 := frame (c := 225) rfl (fun _ => rfl) rfl

theorem user226 : Statement .user226 := frame (c := 226) rfl (fun _ => rfl) rfl

theorem user227 : Statement .user227 := frame (c := 227) rfl (fun _ => rfl) rfl

theorem user228 : Statement .user228 := frame (c := 228) rfl (fun _ => rfl) rfl

theorem user229 : Statement .user229 := frame (c := 229) rfl (fun _ => rfl) rfl

theorem user230 : Statement .user230 := frame (c := 230) rfl (fun _ => rfl) rfl

theorem user231 : Statement .user231 := frame (c := 231) rfl (fun _ => rfl) rfl

theorem user232 : Statement .user232 := frame (c := 232) rfl (fun _ => rfl) rfl

theorem user233 : Statement .user233 := frame (c := 233) rfl (fun _ => rfl) rfl

theorem user234 : Statement .user234 := frame (c := 234) rfl (fun _ => rfl) rfl

theorem user235 : Statement .user235 := frame (c := 235) rfl (fun _ => rfl) rfl

theorem user236 : Statement .user236 := frame (c := 236) rfl (fun _ => rfl) rfl

theorem user237 : Statement .user237 := frame (c := 237) rfl (fun _ => rfl) rfl

theorem user238 : Statement .user238 := frame (c := 238) rfl (fun _ => rfl) rfl

theorem user239 : Statement .user239 := frame (c := 239) rfl (fun _ => rfl) rfl

theorem user240 : Statement .user240 := frame (c := 240) rfl (fun _ => rfl) rfl

theorem user241 : Statement .user241 := frame (c := 241) rfl (fun _ => rfl) rfl

theorem user242 : Statement .user242 := frame (c := 242) rfl (fun _ => rfl) rfl

theorem user243 : Statement .user243 := frame (c := 243) rfl (fun _ => rfl) rfl

theorem user244 : Statement .user244 := frame (c := 244) rfl (fun _ => rfl) rfl

theorem user245 : Statement .user245 := frame (c := 245) rfl (fun _ => rfl) rfl

theorem user246 : Statement .user246 := frame (c := 246) rfl (fun _ => rfl) rfl

theorem user247 : Statement .user247 := frame (c := 247) rfl (fun _ => rfl) rfl

theorem user248 : Statement .user248 := frame (c := 248) rfl (fun _ => rfl) rfl

theorem user249 : Statement .user249 := frame (c := 249) rfl (fun _ => rfl) rfl

theorem user250 : Statement .user250 := frame (c := 250) rfl (fun _ => rfl) rfl

theorem user251 : Statement .user251 := frame (c := 251) rfl (fun _ => rfl) rfl

theorem user252 : Statement .user252 := frame (c := 252) rfl (fun _ => rfl) rfl

theorem user253 : Statement .user253 := frame (c := 253) rfl (fun _ => rfl) rfl

theorem user254 : Statement .user254 := frame (c := 254) rfl (fun _ => rfl) rfl

theorem code255 : Statement .code255 := frame (c := 255) rfl (fun _ => rfl) rfl

end Sys2Proof.Laws.EncodingRoundTrip
end

