-- ==== Sys2Proof/Tests/Slice0.lean ====
section
/-! SUPPORT. Tests: ill-formed terms are refused, every instruction decodes from a word written out from the spec's
encoding, single operations and steps give what the spec's own examples say, and every statement's hypotheses are met
by a concrete state. -/

namespace Sys2Proof.Machine

/-! ## WellFormed refuses what no encoding carries -/

/-- NPORT = 2: port 2 does not exist (10_state.md R22). -/
theorem test_wf_port_out_of_range :
    [Instr.sendMsg 2, .sendBundle 2, .bind 2, .unbind 2, .isUsed 2, .badCommand 2 0x106].map (Instr.wellFormed 2) =
      [false, false, false, false, false, false] := by decide

/-- The five command words are no BAD_COMMAND (30_encoding.md R112, R113). -/
theorem test_wf_bad_command_words :
    [Instr.badCommand 0 1, .badCommand 0 2, .badCommand 0 3, .badCommand 0 4, .badCommand 0 5].map (Instr.wellFormed 2) =
      [false, false, false, false, false] := by decide

/-- What an encoding carries is well formed. -/
theorem test_wf_accepts :
    [Instr.sendMsg 1, .badCommand 1 0, .badCommand 0 6, .badCommand 0 0x106, .user40, .code255].map
      (Instr.wellFormed 2) = [true, true, true, true, true, true] := by decide

/-! ## Decoding of written-out words -/

/-- The PCMD words of R112, and words of R113. -/
theorem test_decode_commands :
    [0x00000001, 0x00000002, 0x00000003, 0x00000004, 0x00000005].map (decodeTableWord 32) =
      [some (.sendMsg 0), some (.sendBundle 0), some (.bind 0), some (.unbind 0), some (.isUsed 0)] ∧
    decodeTableWord 8 0x06 = some (.badCommand 0 6) ∧
    decodeCommand 1 0x00000106 = .badCommand 1 0x106 := by decide

/-- What is no instruction is refused by name: a short word, a port that does not exist. -/
theorem test_decode_rejects :
    decode 2 .wire [1, 2, 3] = .error (.tooShort 3) ∧
    decode 2 (.pcmd 2) [1, 0, 0, 0] = .error (.noSuchPort 2) ∧
    decodeTableWord 33 0 = none := ⟨rfl, rfl, rfl⟩

/-- Headers [1, 2, 3, C] for the action codes 0 to 31 (R100, R106): C in lane 3. -/
theorem test_decode_codes_0 :
    [0x00030201, 0x01030201, 0x02030201, 0x03030201, 0x04030201, 0x05030201, 0x06030201, 0x07030201, 0x08030201,
     0x09030201, 0x0A030201, 0x0B030201, 0x0C030201, 0x0D030201, 0x0E030201, 0x0F030201, 0x10030201, 0x11030201,
     0x12030201, 0x13030201, 0x14030201, 0x15030201, 0x16030201, 0x17030201, 0x18030201, 0x19030201, 0x1A030201,
     0x1B030201, 0x1C030201, 0x1D030201, 0x1E030201, 0x1F030201].map (decodeTableWord 32) =
    [some .reserved0, some .text, some .bundleHeader, some .mult, some .reserved4, some .exit, some .reserved6,
     some .reserved7, some .reserved8, some .reserved9, some .reserved10, some .reserved11, some .reserved12,
     some .reserved13, some .reserved14, some .reserved15, some .reserved16, some .reserved17, some .reserved18,
     some .reserved19, some .reserved20, some .reserved21, some .reserved22, some .reserved23, some .reserved24,
     some .reserved25, some .reserved26, some .reserved27, some .reserved28, some .reserved29, some .reserved30,
     some .reserved31] := by
  decide +kernel

/-- Headers [1, 2, 3, C] for the action codes 32 to 63 (R100, R106): C in lane 3. -/
theorem test_decode_codes_32 :
    [0x20030201, 0x21030201, 0x22030201, 0x23030201, 0x24030201, 0x25030201, 0x26030201, 0x27030201, 0x28030201,
     0x29030201, 0x2A030201, 0x2B030201, 0x2C030201, 0x2D030201, 0x2E030201, 0x2F030201, 0x30030201, 0x31030201,
     0x32030201, 0x33030201, 0x34030201, 0x35030201, 0x36030201, 0x37030201, 0x38030201, 0x39030201, 0x3A030201,
     0x3B030201, 0x3C030201, 0x3D030201, 0x3E030201, 0x3F030201].map (decodeTableWord 32) =
    [some .user32, some .user33, some .user34, some .user35, some .user36, some .user37, some .user38, some .user39,
     some .user40, some .user41, some .user42, some .user43, some .user44, some .user45, some .user46, some .user47,
     some .user48, some .user49, some .user50, some .user51, some .user52, some .user53, some .user54, some .user55,
     some .user56, some .user57, some .user58, some .user59, some .user60, some .user61, some .user62, some .user63] := by
  decide +kernel

/-- Headers [1, 2, 3, C] for the action codes 64 to 95 (R100, R106): C in lane 3. -/
theorem test_decode_codes_64 :
    [0x40030201, 0x41030201, 0x42030201, 0x43030201, 0x44030201, 0x45030201, 0x46030201, 0x47030201, 0x48030201,
     0x49030201, 0x4A030201, 0x4B030201, 0x4C030201, 0x4D030201, 0x4E030201, 0x4F030201, 0x50030201, 0x51030201,
     0x52030201, 0x53030201, 0x54030201, 0x55030201, 0x56030201, 0x57030201, 0x58030201, 0x59030201, 0x5A030201,
     0x5B030201, 0x5C030201, 0x5D030201, 0x5E030201, 0x5F030201].map (decodeTableWord 32) =
    [some .user64, some .user65, some .user66, some .user67, some .user68, some .user69, some .user70, some .user71,
     some .user72, some .user73, some .user74, some .user75, some .user76, some .user77, some .user78, some .user79,
     some .user80, some .user81, some .user82, some .user83, some .user84, some .user85, some .user86, some .user87,
     some .user88, some .user89, some .user90, some .user91, some .user92, some .user93, some .user94, some .user95] := by
  decide +kernel

/-- Headers [1, 2, 3, C] for the action codes 96 to 127 (R100, R106): C in lane 3. -/
theorem test_decode_codes_96 :
    [0x60030201, 0x61030201, 0x62030201, 0x63030201, 0x64030201, 0x65030201, 0x66030201, 0x67030201, 0x68030201,
     0x69030201, 0x6A030201, 0x6B030201, 0x6C030201, 0x6D030201, 0x6E030201, 0x6F030201, 0x70030201, 0x71030201,
     0x72030201, 0x73030201, 0x74030201, 0x75030201, 0x76030201, 0x77030201, 0x78030201, 0x79030201, 0x7A030201,
     0x7B030201, 0x7C030201, 0x7D030201, 0x7E030201, 0x7F030201].map (decodeTableWord 32) =
    [some .user96, some .user97, some .user98, some .user99, some .user100, some .user101, some .user102,
     some .user103, some .user104, some .user105, some .user106, some .user107, some .user108, some .user109,
     some .user110, some .user111, some .user112, some .user113, some .user114, some .user115, some .user116,
     some .user117, some .user118, some .user119, some .user120, some .user121, some .user122, some .user123,
     some .user124, some .user125, some .user126, some .user127] := by
  decide +kernel

/-- Headers [1, 2, 3, C] for the action codes 128 to 159 (R100, R106): C in lane 3. -/
theorem test_decode_codes_128 :
    [0x80030201, 0x81030201, 0x82030201, 0x83030201, 0x84030201, 0x85030201, 0x86030201, 0x87030201, 0x88030201,
     0x89030201, 0x8A030201, 0x8B030201, 0x8C030201, 0x8D030201, 0x8E030201, 0x8F030201, 0x90030201, 0x91030201,
     0x92030201, 0x93030201, 0x94030201, 0x95030201, 0x96030201, 0x97030201, 0x98030201, 0x99030201, 0x9A030201,
     0x9B030201, 0x9C030201, 0x9D030201, 0x9E030201, 0x9F030201].map (decodeTableWord 32) =
    [some .user128, some .user129, some .user130, some .user131, some .user132, some .user133, some .user134,
     some .user135, some .user136, some .user137, some .user138, some .user139, some .user140, some .user141,
     some .user142, some .user143, some .user144, some .user145, some .user146, some .user147, some .user148,
     some .user149, some .user150, some .user151, some .user152, some .user153, some .user154, some .user155,
     some .user156, some .user157, some .user158, some .user159] := by
  decide +kernel

/-- Headers [1, 2, 3, C] for the action codes 160 to 191 (R100, R106): C in lane 3. -/
theorem test_decode_codes_160 :
    [0xA0030201, 0xA1030201, 0xA2030201, 0xA3030201, 0xA4030201, 0xA5030201, 0xA6030201, 0xA7030201, 0xA8030201,
     0xA9030201, 0xAA030201, 0xAB030201, 0xAC030201, 0xAD030201, 0xAE030201, 0xAF030201, 0xB0030201, 0xB1030201,
     0xB2030201, 0xB3030201, 0xB4030201, 0xB5030201, 0xB6030201, 0xB7030201, 0xB8030201, 0xB9030201, 0xBA030201,
     0xBB030201, 0xBC030201, 0xBD030201, 0xBE030201, 0xBF030201].map (decodeTableWord 32) =
    [some .user160, some .user161, some .user162, some .user163, some .user164, some .user165, some .user166,
     some .user167, some .user168, some .user169, some .user170, some .user171, some .user172, some .user173,
     some .user174, some .user175, some .user176, some .user177, some .user178, some .user179, some .user180,
     some .user181, some .user182, some .user183, some .user184, some .user185, some .user186, some .user187,
     some .user188, some .user189, some .user190, some .user191] := by
  decide +kernel

/-- Headers [1, 2, 3, C] for the action codes 192 to 223 (R100, R106): C in lane 3. -/
theorem test_decode_codes_192 :
    [0xC0030201, 0xC1030201, 0xC2030201, 0xC3030201, 0xC4030201, 0xC5030201, 0xC6030201, 0xC7030201, 0xC8030201,
     0xC9030201, 0xCA030201, 0xCB030201, 0xCC030201, 0xCD030201, 0xCE030201, 0xCF030201, 0xD0030201, 0xD1030201,
     0xD2030201, 0xD3030201, 0xD4030201, 0xD5030201, 0xD6030201, 0xD7030201, 0xD8030201, 0xD9030201, 0xDA030201,
     0xDB030201, 0xDC030201, 0xDD030201, 0xDE030201, 0xDF030201].map (decodeTableWord 32) =
    [some .user192, some .user193, some .user194, some .user195, some .user196, some .user197, some .user198,
     some .user199, some .user200, some .user201, some .user202, some .user203, some .user204, some .user205,
     some .user206, some .user207, some .user208, some .user209, some .user210, some .user211, some .user212,
     some .user213, some .user214, some .user215, some .user216, some .user217, some .user218, some .user219,
     some .user220, some .user221, some .user222, some .user223] := by
  decide +kernel

/-- Headers [1, 2, 3, C] for the action codes 224 to 255 (R100, R106): C in lane 3. -/
theorem test_decode_codes_224 :
    [0xE0030201, 0xE1030201, 0xE2030201, 0xE3030201, 0xE4030201, 0xE5030201, 0xE6030201, 0xE7030201, 0xE8030201,
     0xE9030201, 0xEA030201, 0xEB030201, 0xEC030201, 0xED030201, 0xEE030201, 0xEF030201, 0xF0030201, 0xF1030201,
     0xF2030201, 0xF3030201, 0xF4030201, 0xF5030201, 0xF6030201, 0xF7030201, 0xF8030201, 0xF9030201, 0xFA030201,
     0xFB030201, 0xFC030201, 0xFD030201, 0xFE030201, 0xFF030201].map (decodeTableWord 32) =
    [some .user224, some .user225, some .user226, some .user227, some .user228, some .user229, some .user230,
     some .user231, some .user232, some .user233, some .user234, some .user235, some .user236, some .user237,
     some .user238, some .user239, some .user240, some .user241, some .user242, some .user243, some .user244,
     some .user245, some .user246, some .user247, some .user248, some .user249, some .user250, some .user251,
     some .user252, some .user253, some .user254, some .code255] := by
  decide +kernel
/-! ## Helpers -/

/-- The state a result answers, if it answers one. -/
def next? : Result → Option State
  | .next s => some s
  | .fault _ => none
  | .refused _ => none

/-- A result that answers a state with a property. -/
theorem next_with {r : Result} (f : State → Bool) (h : (next? r).map f = some true) :
    ∃ t, r = .next t ∧ f t = true := by
  cases r with
  | next s => exact ⟨s, rfl, by simpa [next?] using h⟩
  | fault x => cases h
  | refused x => cases h

/-- The value `f` has in the state a result answers. -/
def got {α : Type} (r : Result) (f : State → α) : Option α := (next? r).map f

/-- The state right after reset. -/
abbrev base : State := State.reset

/-- After reset, with port 0's command operands set. -/
def withArgs (c h : Word) : State := base.withPort 0 { resetPort with parg0 := c, parg1 := h }

/-- After reset, with port 0's send operands set. -/
def withSend (len s t c : Word) : State :=
  base.withPort 0 { resetPort with txLen := len, txSender := s, txTarget := t, txCode := c }

/-- After reset, with slot 40 bound to handler 3. -/
def bound : State := base.setSlot 40 (.ext 3)

/-- `s` in the cycle that completes the top-level frame with header `h` of which `body` arrived. -/
def frameIn (s : State) (h : Header) (body : List Byte) : State :=
  { s with
    rx := { s.rx with rs := .body, cur := h, bcnt := body.length, e := 1 }
    rxbuf := body.mapIdx fun k b => (k, b) }

/-- `s` in the cycle that completes the second and last fragment, with code `c`, of a bundle of first fragment "2". -/
def lastFragment (s : State) (c : Byte) : State :=
  { s with
    rx := { s.rx with
      rs := .fbody, cur := ⟨1, 7, 0, 9⟩, bcnt := 1, top := ⟨1, 7, 0, 2⟩, nfrag := 2, fidx := 1, boff := 1, rsum := 1
      fcode := c }
    rxbuf := [(0, 0x32), (1, 0x35)] }

/-- `s` in the cycle that completes the first of two fragments. -/
def firstFragment (s : State) : State :=
  { s with
    rx := { s.rx with rs := .fbody, cur := ⟨2, 7, 0, 5⟩, bcnt := 1, e := 1, top := ⟨1, 7, 0, 2⟩, nfrag := 2 }
    rxbuf := [(0, 0x41)] }

/-- `s` waiting for DISP_ACK of a handler kind. -/
def waiting (s : State) (k : SlotKind) (h c : Byte) : State :=
  { s with disp := ⟨true, k, h, c⟩, rx := { s.rx with rs := .dwait } }

/-- A full-word write. -/
def busWriteOf (a : Nat) (v : Word) : Input :=
  { Input.idle with
    busValid := true, busWrite := true, busAddr := BitVec.ofNat 18 (a / 4), busWdata := v, busWstrb := 0b1111 }

/-- The same write with lane 3 not strobed. -/
def partialWriteOf (a : Nat) (v : Word) : Input := { busWriteOf a v with busWstrb := 0b0111 }

/-- A read. -/
def busReadOf (a : Nat) : Input := { Input.idle with busValid := true, busAddr := BitVec.ofNat 18 (a / 4) }

/-- A cycle in which the channel offers a byte. -/
def offers (b : Byte) : Input := { Input.idle with rxValid := true, rxData := b }

/-- A cycle in which the channel accepts a byte. -/
def accepting : Input := { Input.idle with txReady := true }

/-- A port in the middle of its send of a message of 2 bytes. -/
def activePort : Port := { resetPort with pst := .active, sc := ⟨.msg, 2, 1, 255, 1⟩, txbuf := [(0, 0x68), (1, 0x69)] }

/-- `s` with port 0 sending, at stream byte `pos`, in chunks of 4. -/
def sending (s : State) (pos cpos : Nat) : State :=
  { s with
    ports := [activePort, resetPort]
    tx := ⟨.send, 0, 0, 6, pos, 4, cpos, 0⟩ }

/-- `s` with port 0 in a pacing wait of `pr` more cycles. -/
def pacing (s : State) (pos pr : Nat) : State :=
  { s with
    ports := [activePort, resetPort]
    tx := ⟨.pace, 0, 0, 6, pos, 4, 0, pr⟩ }

/-- After reset, with port 0 waiting for the lock. -/
def lockWaiting : State := base.withPort 0 { resetPort with pst := .waitlock, sc := ⟨.msg, 2, 1, 255, 1⟩ }

/-! ## Operations and instructions, against 95_test_vectors.md -/

/-- V1, V3 to V8, V11, V13, V15. -/
theorem test_codec :
    headerEncode ⟨2, 1, 255, 1⟩ = [0x02, 0x01, 0xFF, 0x01] ∧
    [headerCheck 2 1 256 1 255, headerCheck 256 1 2 1 255, headerCheck 300 1 0x100 1 255, headerCheck 255 255 255 255 255] =
      [.valueOutOfByteRange, .oversizedMessage, .valueOutOfByteRange, .ok] ∧
    messageEncode 5 6 7 [] = [0x00, 0x05, 0x06, 0x07] ∧
    pad 0 [0x61, 0x62, 0x63] 5 = [0x61, 0x62, 0x63, 0, 0] ∧
    [1, 9, 10, 99, 100, 255].map formatCount =
      [[0x31], [0x39], [0x31, 0x30], [0x39, 0x39], [0x31, 0x30, 0x30], [0x32, 0x35, 0x35]] ∧
    bundleEncode 9 0 40 [] = [0x01, 0x09, 0x00, 0x02, 0x31, 0x00, 0x09, 0x00, 0x28] := by decide +kernel

/-- V16: "1", "007", "255", "0", "256", "", " 3", "+3", "2" broken. -/
theorem test_parseCount :
    [parseCount [0x31] false, parseCount [0x30, 0x30, 0x37] false, parseCount [0x32, 0x35, 0x35] false,
      parseCount [0x30] false, parseCount [0x32, 0x35, 0x36] false, parseCount [] false, parseCount [0x20, 0x33] false,
      parseCount [0x2B, 0x33] false, parseCount [0x32] true] =
      [some 1, some 7, some 255, none, none, none, none, none, none] := by decide

/-- V17: "1.5", "0.1", ".5", "3.", "255.999", "0.001", "None". -/
theorem test_parseMult_values :
    [parseMult [0x31, 0x2E, 0x35], parseMult [0x30, 0x2E, 0x31], parseMult [0x2E, 0x35], parseMult [0x33, 0x2E],
      parseMult [0x32, 0x35, 0x35, 0x2E, 0x39, 0x39, 0x39], parseMult [0x30, 0x2E, 0x30, 0x30, 0x31],
      parseMult [0x4E, 0x6F, 0x6E, 0x65]] =
      [.value 0x0180, .value 0x0019, .value 0x0080, .value 0x0300, .value 0xFFFF, .value 0x0000, .inf] := by decide

/-- V18: "", "256", "-1", "1e3", "1.5 ", "none", ".". -/
theorem test_parseMult_rejects :
    [parseMult [], parseMult [0x32, 0x35, 0x36], parseMult [0x2D, 0x31], parseMult [0x31, 0x65, 0x33],
      parseMult [0x31, 0x2E, 0x35, 0x20], parseMult [0x6E, 0x6F, 0x6E, 0x65], parseMult [0x2E]] =
      [.reject, .reject, .reject, .reject, .reject, .reject, .reject] := by decide

/-- V19 to V27. -/
theorem test_cycles :
    [timeoutCycles 2400 0 0x0180 false 300, timeoutCycles 2400 255 0x0180 false 300, timeoutCycles 2400 5 1 false 300,
      timeoutCycles 2400 10 0x0180 false 9600, timeoutCycles 2400 10 0x0180 true 300] =
      [some 0, some 24480, some 2, some 30, none] ∧
    [paceCycles 2400 1 300, paceCycles 2400 105 300, paceCycles 2400 512 9600, paceCycles 2400 1 7] =
      [64, 6720, 1024, 2743] := by decide

/-- L1.4: SEND_MSG of 256 bytes fails, of 255 waits for the lock. -/
theorem test_sendMsg :
    got (exec (.sendMsg 0) (withSend 256 1 2 1)) (fun t => t.ports.map pstatusWord) = some [0x0304, 0] ∧
    got (exec (.sendMsg 0) (withSend 255 1 2 1)) (fun t => t.ports.map pstatusWord) = some [0x0003, 0] := by
  decide +kernel

/-- L1.5: SEND_BUNDLE of 65026 bytes fails, of 65025 is accepted. -/
theorem test_sendBundle :
    got (exec (.sendBundle 0) (withSend 65026 1 2 1)) (fun t => t.ports.map pstatusWord) = some [0x0304, 0] ∧
    got (exec (.sendBundle 0) (withSend 65025 1 2 1)) (fun t => t.ports.map pstatusWord) = some [0x0003, 0] := by
  decide +kernel

/-- T1 to T5: BIND. -/
theorem test_bind :
    [withArgs 31 0, withArgs 255 0, withArgs 0x120 0, withArgs 32 16, withArgs 32 15].map
        (fun s => got (exec (.bind 0) s) fun t => ((t.ports.map pstatusWord).head?, (t.slot? 32).map Slot.word)) =
      [some (some 0x0404, some 0), some (some 0x0404, some 0), some (some 0x0404, some 0), some (some 0x0504, some 0),
        some (some 0x0004, some 0x0F04)] := by decide +kernel

/-- T8, T9, and UNBIND of a bound slot. -/
theorem test_unbind :
    [withArgs 33 0, withArgs 5 0, (withArgs 40 0).setSlot 40 (.ext 3)].map
        (fun s => got (exec (.unbind 0) s) fun t => ((t.ports.map pstatusWord).head?, (t.slot? 40).map Slot.word)) =
      [some (some 0x0704, some 0), some (some 0x0404, some 0), some (some 0x0004, some 0)] := by decide +kernel

/-- T10, T11: ISUSED. -/
theorem test_isUsed :
    [1, 2, 5, 254, 255].map (fun c => got (exec (.isUsed 0) (withArgs c 0)) fun t =>
        t.ports.head?.map fun P => (pstatusWord P, P.result)) =
      [some (some (0x0004, 1)), some (some (0x0004, 0)), some (some (0x0004, 1)), some (some (0x0004, 0)),
        some (some (0x0404, 0))] := by decide +kernel

/-- R311: PCMD = 0x00000106 gives ERR = 0x0A, DONE = 1. -/
theorem test_badCommand :
    got (exec (.badCommand 0 0x106) base) (fun t => t.ports.map pstatusWord) = some [0x0A04, 0] := by decide +kernel

/-- L1.11, T19: the frame "hi" for TEXT. -/
theorem test_text :
    got (exec .text (frameIn base ⟨2, 1, 255, 1⟩ [0x68, 0x69])) (fun t => (dispWord t.disp, t.rx.rs, t.rxBytes 2)) =
      some (0x80010001, .dwait, [0x68, 0x69]) := by decide +kernel

/-- T16, T15, T14: MULT "0.5", "None", "x". -/
theorem test_mult :
    got (exec .mult (frameIn base ⟨3, 1, 0, 3⟩ [0x30, 0x2E, 0x35])) (fun t => tmultWord t.tmult) = some 0x80 ∧
    got (exec .mult (frameIn base ⟨4, 1, 255, 3⟩ [0x4E, 0x6F, 0x6E, 0x65])) (fun t => tmultWord t.tmult) = some 0x10180 ∧
    got (exec .mult (frameIn base ⟨1, 1, 255, 3⟩ [0x78])) (fun t => (tmultWord t.tmult, lastFailWord t.lastFail)) =
      some (0x180, 0x203) := by decide +kernel

/-- T17: a broadcast EXIT leaves GSTATUS = 0x00000101; R288: 3 of 6 bytes sent gives HALTED and PRESULT = 3. -/
theorem test_exit :
    got (exec .exit (frameIn base ⟨0, 7, 0, 5⟩ [])) gstatusWord = some 0x101 ∧
    got (exec .exit (frameIn (sending base 3 3) ⟨0, 7, 0, 5⟩ [])) (fun t => t.ports.map fun P => (pstatusWord P, P.result)) =
      some [(0x0904, 3), (0, 0)] := by decide +kernel

/-- T12, T13: a reserved code does nothing, code 255 is reported. -/
theorem test_reserved0_code255 :
    got (exec .reserved0 (frameIn base ⟨0, 1, 255, 0⟩ [])) (fun t => (rxfKindWord t.view, t.cnt.rxframe, t.rx.rs)) =
      some (1, 1, .hdr) ∧
    got (exec .code255 (frameIn base ⟨0, 1, 255, 255⟩ [])) (fun t => (lastFailWord t.lastFail, t.cnt.hfail, t.rx.rs)) =
      some (0x3FF, 1, .hdr) := by decide +kernel

/-- T20: a bound user code; L1.6: the broken frame of an unbound one. -/
theorem test_user40 :
    got (exec .user40 (frameIn bound ⟨0, 1, 255, 40⟩ [])) (fun t => dispWord t.disp) = some 0x80040328 ∧
    got (exec .user40 (frameIn base ⟨10, 7, 255, 40⟩ [0x31, 0x32, 0x33, 0x34, 0x35, 0x36])) (fun t =>
        (t.rxBytes 10, headerWord t.view.hdr, rxfKindWord t.view, t.view.bodylen, t.view.rcvlen, t.cnt.broken)) =
      some ([0x31, 0x32, 0x33, 0x34, 0x35, 0x36, 0, 0, 0, 0], 0x28FF070A, 0x102, 10, 6, 1) := by decide +kernel

/-- R246: the header message [1, 9, 0, 2, "2"] starts a bundle of two. -/
theorem test_bundleHeader :
    got (exec .bundleHeader (frameIn base ⟨1, 9, 0, 2⟩ [0x32])) (fun t => (t.rx.nfrag, t.rx.rs, t.cnt.rxframe)) =
      some (2, .fhdr, 0) := by decide +kernel

/-- L1.9: the filter drops a frame for target 7. -/
theorem test_filter :
    got (exec .text (frameIn base ⟨1, 9, 7, 1⟩ [0x41])) (fun t => (t.cnt.rxdrop, t.cnt.rxframe, dispWord t.disp)) =
      some (1, 1, 0) := by decide +kernel

/-- A word placed after reset is run by the next step: BIND, a TEXT header, EXIT (R112, R106). -/
theorem test_withFetchWord :
    got (step (base.withFetchWord 32 0x00000003)) (fun t => t.ports.map pstatusWord) = some [0x0404, 0] ∧
    got (step (base.withFetchWord 32 0x01FF0102)) (fun t => (dispWord t.disp, headerWord t.view.hdr)) =
      some (0x80010001, 0x01FF0102) ∧
    got (step (base.withFetchWord 32 0x05000700)) gstatusWord = some 0x101 := by decide +kernel

/-- A step with a bus write and one with a byte on the channel (R315, R241). -/
theorem test_step :
    got (step (base.given (busWriteOf 0x10 0x1207))) (fun t => (t.devAddr, t.env.out.busResp)) =
      some (0x07, some false) ∧
    got (step (base.given (offers 0x55))) (fun t => (t.rx.hcnt, t.rx.hb0, t.env.out.rxReady)) =
      some (1, 0x55, true) := by decide +kernel

/-! ## What the statements assume is met: encoding -/

theorem test_meets_DecodeOfEncodeIsIdentity :
    (Instr.badCommand 1 0x106).wellFormed 2 = true ∧ (Instr.badCommand 1 0x106).carries HeaderFields.zero = true ∧
    Instr.user40.wellFormed 2 = true ∧ Instr.user40.carries ⟨10, 7, 0⟩ = true := by decide

theorem test_meets_DecodeAnswersOrRejectsExactly :
    decode 2 .wire [1, 2, 3, 40, 9] = .ok ((.user40, ⟨1, 2, 3⟩), [9]) ∧
    decode 2 .wire [1, 2, 3] = .error (.tooShort 3) ∧
    decode 2 (.pcmd 2) [1, 0, 0, 0] = .error (.noSuchPort 2) := ⟨rfl, rfl, rfl⟩

theorem test_meets_HeaderRoundTrip : headerEncode ⟨10, 7, 0, 40⟩ = [0x0A, 0x07, 0x00, 0x28] := by decide

/-- A BIND at port 1, with the RX engine in each state that reads no body. -/
theorem test_meets_StepRunsTheDecodedCommand :
    base.params.Legal ∧ base.halted = false ∧
    decode base.params.nport (.pcmd 1) (lanes 3) = .ok ((.bind 1, HeaderFields.zero), []) ∧
    ∀ x ∈ [RxState.hdr, .fhdr, .dwait, .dead],
      (base.setRs x).rx.rs.inBody = false ∧ (base.setRs x).tx.ts = .idle ∧ nextGrant (base.setRs x) = none ∧
      (next? (exec (.bind 1) ((base.setRs x).given (pcmdWrite 1 3)))).isSome = true :=
  ⟨by decide, rfl, rfl, by decide +kernel⟩

theorem test_meets_StepRunsTheDecodedFrame :
    (∃ s : State, s.halted = false ∧ bodyOver s = true ∧ s.rx.rs = .body ∧ s.rx.cur = ⟨2, 1, 255, 1⟩ ∧
      decode s.params.nport .wire (headerEncode ⟨2, 1, 255, 1⟩ ++ [0x68, 0x69]) =
        .ok ((.text, ⟨2, 1, 255⟩), [0x68, 0x69])) ∧
    (∃ s : State, s.halted = false ∧ bodyOver s = true ∧ s.rx.rs = .fbody ∧ s.rx.fidx + 1 = s.rx.nfrag ∧
      s.rx.fidx ≠ 0 ∧ s.rx.fcode = 40 ∧
      decode s.params.nport .wire (headerEncode ⟨1, 7, 0, 40⟩ ++ [0x35]) = .ok ((.user40, ⟨1, 7, 0⟩), [0x35])) :=
  ⟨⟨frameIn base ⟨2, 1, 255, 1⟩ [0x68, 0x69], rfl, rfl, rfl, rfl, rfl⟩,
    ⟨lastFragment base 40, rfl, rfl, rfl, rfl, by decide, rfl, rfl⟩⟩

/-! ## What the statements assume is met: commands -/

/-- Port 0 exists and is idle after reset, whatever its operands; the operands meet each clause at its boundary. -/
theorem test_meets_SendChecks :
    (withSend 0 256 0 0).ports[0]?.map Port.pst = some .idle ∧
    (0x100 : Word).toNat > 255 ∧ (256 : Word).toNat > 255 ∧ (255 : Word).toNat ≤ 255 ∧
    (65026 : Word).toNat > 65025 ∧ (65025 : Word).toNat ≤ 65025 := by decide +kernel

theorem test_meets_BindChecksThenBindsTheSlot :
    [withArgs 31 0, withArgs 255 0, withArgs 32 16, withArgs 254 15].map (fun s => s.ports[0]?.map Port.pst) =
      [some .idle, some .idle, some .idle, some .idle] ∧
    (withArgs 254 15).slots[254]? = some .placeholder ∧ ((withArgs 32 15).setSlot 32 (.ext 0)).slots[32]? = some (.ext 0) := by
  decide +kernel

theorem test_meets_UnbindChecksThenEmptiesTheSlot :
    [withArgs 31 0, withArgs 255 0, withArgs 32 0].map (fun s => s.ports[0]?.map Port.pst) =
      [some .idle, some .idle, some .idle] ∧
    (withArgs 32 0).slots[32]? = some .placeholder ∧ ((withArgs 254 0).setSlot 254 (.ext 3)).slots[254]? = some (.ext 3) := by
  decide +kernel

theorem test_meets_IsUsedReportsTheSlot :
    [withArgs 254 0, withArgs 255 0].map (fun s => s.ports[0]?.map Port.pst) = [some .idle, some .idle] ∧
    (withArgs 1 0).slots[1]? = some .text ∧ (withArgs 0 0).slots[0]? = some .placeholder := by decide +kernel

theorem test_meets_IllegalCommandCompletesWithBadCommand :
    base.ports[0]?.map Port.pst = some .idle ∧ (0x101 : Word).extractLsb' 8 24 ≠ 0 ∧
    ((0 : Word).extractLsb' 0 8).toNat < 1 ∧ ((6 : Word).extractLsb' 0 8).toNat > 5 := by decide +kernel

theorem test_meets_BusyPortDropsEveryCommand :
    (Instr.badCommand 0 0).source = .pcmd 0 ∧ lockWaiting.ports[0]?.map Port.pst = some .waitlock ∧
    (sending base 0 0).ports[0]?.map Port.pst = some .active := by decide +kernel

/-- Each stop, at its boundary: port 2 of 2; a broken body ending one byte past RXBUF, and one ending with it. -/
theorem test_meets_ExecStopsExactlyWhere :
    base.ports.length ≤ 2 ∧
    (let s := { firstFragment base with rx := { (firstFragment base).rx with boff := 65024 } };
      isBroken s = true ∧ 65025 < bodyBase s + s.rx.cur.len.toNat) ∧
    (let s := { firstFragment base with rx := { (firstFragment base).rx with boff := 65023 } };
      isBroken s = true ∧ bodyBase s + s.rx.cur.len.toNat = 65025) := by decide +kernel

theorem test_meets_CommandTouchesOnlyItsPortAndSlot :
    (Instr.bind 0).source = .pcmd 0 ∧ (∃ t, exec (.bind 0) (withArgs 254 15) = .next t) ∧
    (Instr.isUsed 0).source = .pcmd 0 ∧ (∃ t, exec (.isUsed 0) (withArgs 0 0) = .next t) :=
  ⟨rfl, ⟨_, rfl⟩, rfl, ⟨_, rfl⟩⟩

/-! ## What the statements assume is met: frames -/

theorem test_meets_TextFrameWaitsForTheObserver :
    (let s := frameIn base ⟨2, 1, 255, 1⟩ [0x68, 0x69];
      FrameReady s ∧ FrameAccepted s ∧ s.slots[1]? = some .text) ∧
    (let s := frameIn base ⟨255, 1, 0, 1⟩ [];
      FrameReady s ∧ FrameAccepted s ∧ s.slots[1]? = some .text) ∧
    (let s := lastFragment base 1;
      FrameReady s ∧ FrameAccepted s ∧ s.slots[1]? = some .text) := by
  refine ⟨⟨⟨by decide +kernel, by decide⟩, .inl rfl, rfl⟩, ⟨⟨by decide +kernel, by decide⟩, .inr rfl, rfl⟩,
    ⟨by decide +kernel, by decide⟩, .inr rfl, rfl⟩

/-- MULT bodies "255.999", "None" and "256", and a bundle's "25". -/
theorem test_meets_MultFrameSetsTheMultiplier :
    (let s := frameIn base ⟨7, 1, 255, 3⟩ [0x32, 0x35, 0x35, 0x2E, 0x39, 0x39, 0x39];
      FrameReady s ∧ FrameAccepted s ∧ s.slots[3]? = some .mult) ∧
    (let s := frameIn base ⟨4, 1, 0, 3⟩ [0x4E, 0x6F, 0x6E, 0x65];
      FrameReady s ∧ FrameAccepted s ∧ s.slots[3]? = some .mult) ∧
    (let s := frameIn base ⟨3, 1, 0, 3⟩ [0x32, 0x35, 0x36];
      FrameReady s ∧ FrameAccepted s ∧ s.slots[3]? = some .mult) ∧
    (let s := lastFragment base 3;
      FrameReady s ∧ FrameAccepted s ∧ s.slots[3]? = some .mult) := by
  refine ⟨⟨⟨by decide +kernel, by decide⟩, .inl rfl, rfl⟩, ⟨⟨by decide +kernel, by decide⟩, .inr rfl, rfl⟩,
    ⟨⟨by decide +kernel, by decide⟩, .inr rfl, rfl⟩, ⟨by decide +kernel, by decide⟩, .inr rfl, rfl⟩

theorem test_meets_ExitFrameHaltsAndAborts :
    let s := frameIn (sending base 3 3) ⟨0, 7, 0, 5⟩ [];
    FrameReady s ∧ FrameAccepted s ∧ s.slots[5]? = some .exit :=
  ⟨⟨by decide +kernel, by decide⟩, .inr rfl, rfl⟩

/-- The reserved codes 0 and 31, the user codes 32 and 254, and code 2 as a bundle's dispatch code. -/
theorem test_meets_PlaceholderFrameDoesNothing :
    ([(Instr.reserved0, (0 : Byte)), (.reserved31, 31), (.user32, 32), (.user254, 254), (.bundleHeader, 2)].all fun x =>
      x.1.code? == some x.2 && x.2 != 255 && base.slots[x.2.toNat]? == some .placeholder) = true ∧
    (let s := frameIn base ⟨0, 1, 255, 0⟩ [];
      FrameReady s ∧ FrameAccepted s ∧ s.slots = base.slots) ∧
    (let s := lastFragment base 2;
      s.rx.rs = .fbody ∧ FrameReady s ∧ FrameAccepted s ∧ s.slots = base.slots) :=
  ⟨by decide +kernel, ⟨⟨by decide +kernel, by decide⟩, .inl rfl, rfl⟩, rfl, ⟨by decide +kernel, by decide⟩, .inr rfl, rfl⟩

/-- User codes 32 and 254, bound. -/
theorem test_meets_BoundUserFrameWaitsForItsHandler :
    (let s := frameIn (base.setSlot 32 (.ext 0)) ⟨0, 1, 255, 32⟩ [];
      Instr.user32.code? = some 32 ∧ FrameReady s ∧ FrameAccepted s ∧ s.slots[32]? = some (.ext 0)) ∧
    (let s := frameIn (base.setSlot 254 (.ext 15)) ⟨1, 1, 0, 254⟩ [];
      Instr.user254.code? = some 254 ∧ FrameReady s ∧ FrameAccepted s ∧ s.slots[254]? = some (.ext 15)) :=
  ⟨⟨rfl, ⟨by decide +kernel, by decide⟩, .inl rfl, rfl⟩, rfl, ⟨by decide +kernel, by decide⟩, .inr rfl, rfl⟩

theorem test_meets_Code255FrameIsReported :
    let s := frameIn base ⟨0, 1, 255, 255⟩ [];
    FrameReady s ∧ FrameAccepted s := ⟨⟨by decide +kernel, by decide⟩, .inl rfl⟩

theorem test_meets_FilteredFrameIsDropped :
    let s := frameIn base ⟨1, 9, 7, 1⟩ [0x41];
    Instr.text.code? = some 1 ∧ FrameReady s ∧ ¬ FrameAccepted s :=
  ⟨rfl, ⟨by decide +kernel, by decide⟩, by decide +kernel⟩

/-- The counts "1" and "255". -/
theorem test_meets_BundleHeaderStartsTheBundle :
    (let s := frameIn base ⟨1, 9, 0, 2⟩ [0x31];
      s.rx.rs ≠ .fbody ∧ s.rx.cur.len.toNat ≤ s.rx.bcnt ∧ s.rx.cur.len ≠ 0 ∧
      (∀ b ∈ s.rxBytes s.rx.cur.len.toNat, 0x30 ≤ b.toNat ∧ b.toNat ≤ 0x39) ∧
      decimal (s.rxBytes s.rx.cur.len.toNat) = 1) ∧
    (let s := frameIn base ⟨3, 9, 0, 2⟩ [0x32, 0x35, 0x35];
      s.rx.rs ≠ .fbody ∧ s.rx.cur.len.toNat ≤ s.rx.bcnt ∧ s.rx.cur.len ≠ 0 ∧
      (∀ b ∈ s.rxBytes s.rx.cur.len.toNat, 0x30 ≤ b.toNat ∧ b.toNat ≤ 0x39) ∧
      decimal (s.rxBytes s.rx.cur.len.toNat) = 255) := by decide +kernel

/-- An empty body, the bytes beside the digits, the values beside the range, a broken header message, and the values at
the ends of the range. -/
theorem test_meets_InvalidBundleCountIsDiscarded :
    (let s := frameIn base ⟨1, 9, 0, 2⟩ [0x30];
      FrameReady s ∧ s.rx.rs ≠ .fbody ∧ parseCount (s.rxBytes s.rx.cur.len.toNat) false = none) ∧
    (let s := frameIn base ⟨2, 9, 0, 2⟩ [0x31];
      FrameReady s ∧ s.rx.rs ≠ .fbody ∧ isBroken s = true) ∧
    [parseCount [] false, parseCount [0x2F] false, parseCount [0x3A] false, parseCount [0x30] false,
      parseCount [0x32, 0x35, 0x36] false, parseCount [0x31] true, parseCount [0x31] false,
      parseCount [0x32, 0x35, 0x35] false] = [none, none, none, none, none, none, some 1, some 255] :=
  ⟨⟨⟨by decide +kernel, by decide⟩, by decide, by decide +kernel⟩,
    ⟨⟨by decide +kernel, by decide⟩, by decide, rfl⟩, by decide +kernel⟩

theorem test_meets_FragmentIsClosedAndNotDispatched :
    let s := firstFragment base;
    FrameReady s ∧ s.rx.rs = .fbody ∧ bodyOver s = true ∧ s.rx.fidx + 1 ≠ s.rx.nfrag :=
  ⟨⟨by decide +kernel, by decide⟩, rfl, rfl, by decide⟩

/-- The slot table after a BIND. -/
theorem test_slotsOk_bound : SlotsOk bound := ⟨by decide +kernel, by decide +kernel, by decide +kernel⟩

theorem test_meets_FrameTouchesOnlyItsOwnState :
    let s := frameIn bound ⟨10, 7, 255, 40⟩ [0x31];
    Instr.user40.code? = some 40 ∧ SlotsOk s ∧ s.rxbuf.wf ∧ ∃ t, exec .user40 s = .next t :=
  ⟨rfl, ⟨by decide +kernel, by decide +kernel, by decide +kernel⟩, by decide +kernel, _, rfl⟩

/-- A failing handler's acknowledgement, and the text observer's. -/
theorem test_meets_DispAckEndsThePendingDispatch :
    (let s := waiting bound .ext 3 40;
      s.disp.pend = true ∧ s.rx.rs = .dwait ∧ s.disp.kind = .ext ∧ WritesWord (busWriteOf 0x24 1) 0x24 1) ∧
    (let s := waiting base .text 0 1;
      s.disp.pend = true ∧ s.rx.rs = .dwait ∧ s.disp.kind ≠ .ext ∧ WritesWord (busWriteOf 0x24 0) 0x24 0) :=
  ⟨⟨rfl, rfl, rfl, by decide⟩, rfl, rfl, by decide, by decide⟩

theorem test_meets_StrayDispAckSetsAckdrop :
    base.disp.pend = false ∧ WritesWord (busWriteOf 0x24 0) 0x24 0 := by decide

/-! ## What the statements assume is met: whole-machine rules -/

theorem test_meets_OnlyAChannelFaultEndsTheReadTask :
    let s := base.given { Input.idle with rxFault := true };
    s.rx.rs ≠ .dead ∧ ∃ t, step s = .next t ∧ t.rx.rs = .dead := ⟨by decide, _, rfl, rfl⟩

theorem test_meets_OnlyAnExitFrameHalts :
    (let s := (frameIn base ⟨0, 7, 0, 5⟩ []).given Input.idle;
      SlotsOk s ∧ s.halted = false ∧ ∃ t, step s = .next t ∧ (t.halted == true) = true) ∧
    (let s := (lastFragment base 5).given Input.idle;
      SlotsOk s ∧ s.halted = false ∧ ∃ t, step s = .next t ∧ (t.halted == true) = true) :=
  ⟨⟨⟨by decide +kernel, by decide +kernel, by decide +kernel⟩, rfl, next_with _ (by decide +kernel)⟩,
    ⟨by decide +kernel, by decide +kernel, by decide +kernel⟩, rfl, next_with _ (by decide +kernel)⟩

theorem test_meets_ReservedSlotsNeverChange :
    (∀ c < 32, bound.slots[c]? = some (resetSlot c)) ∧
    (next? (step (bound.given (busWriteOf 0x100 3)))).isSome = true ∧
    (withArgs 31 0).ports[0]?.map (fun P => (P.pst, P.parg0)) = some (.idle, 31) := by decide +kernel

/-- A slot is changed by a BIND, by an UNBIND and by a reset. -/
theorem test_meets_UserSlotsChangeOnlyByBindAndUnbind :
    (∃ t, step ((withArgs 40 3).given (busWriteOf 0x100 3)) = .next t ∧ (t.slots[40]? != some .placeholder) = true) ∧
    (∃ t, step (((withArgs 40 0).setSlot 40 (.ext 3)).given (busWriteOf 0x100 4)) = .next t ∧
      (t.slots[40]? == some .placeholder) = true) ∧
    (∃ t, step (bound.given { Input.idle with rst := true }) = .next t ∧ (t.slots[40]? == some .placeholder) = true) :=
  ⟨next_with _ (by decide +kernel), next_with _ (by decide +kernel), next_with _ (by decide +kernel)⟩

/-- The invariant in the last cycle of an EXIT frame while port 0 sends. -/
theorem test_inv_exit_while_sending : Inv (frameIn (sending base 3 3) ⟨0, 7, 0, 5⟩ []) where
  params := by decide
  slots := ⟨by decide +kernel, by decide +kernel, by decide +kernel⟩
  buffers := ⟨by decide +kernel, by decide +kernel⟩
  rx := by constructor <;> decide +kernel
  tx := by constructor <;> decide +kernel
  halt := by unfold HaltOk; decide +kernel

/-- The invariant in the last cycle of an EXIT frame and of port 0's pacing wait. -/
theorem test_inv_exit_while_pacing : Inv (frameIn (pacing base 6 1) ⟨0, 7, 0, 5⟩ []) where
  params := by decide
  slots := ⟨by decide +kernel, by decide +kernel, by decide +kernel⟩
  buffers := ⟨by decide +kernel, by decide +kernel⟩
  rx := by constructor <;> decide +kernel
  tx := by constructor <;> decide +kernel
  halt := by unfold HaltOk; decide +kernel

/-- The write failure, the completion and the aborts of an EXIT cycle. -/
theorem test_meets_ExitCycleEndsEverySend :
    (let s := frameIn (sending base 3 3) ⟨0, 7, 0, 5⟩ [];
      s.halted = false ∧ completing s = some 5 ∧ FrameAccepted s ∧
      [{ Input.idle with txFault := true }, accepting, Input.idle].all (fun inp =>
        (next? (hostCycle inp s)).isSome && (next? (activeCycle inp s)).isSome) = true) ∧
    (let s := frameIn (pacing base 6 1) ⟨0, 7, 0, 5⟩ [];
      s.halted = false ∧ completing s = some 5 ∧ FrameAccepted s ∧
      ((next? (hostCycle Input.idle s)).isSome && (next? (activeCycle Input.idle s)).isSome) = true) :=
  ⟨⟨rfl, rfl, .inr rfl, by decide +kernel⟩, rfl, rfl, .inr rfl, by decide +kernel⟩

/-! ## What the statements assume is met: codec -/

theorem test_meets_FragmentCountLimit : 65026 ≤ 65026 ∧ fragmentCount 65025 = 255 ∧ fragmentCount 65026 = 256 := by decide

theorem test_meets_SendSizeBoundaries :
    [withSend 255 255 255 255, withSend 256 0 0 0, withSend 65025 0 0 0, withSend 65026 0 0 0].map (fun s =>
        s.ports[0]?.map fun P => (P.pst, P.txLen)) =
      [some (.idle, 255), some (.idle, 256), some (.idle, 65025), some (.idle, 65026)] := by decide +kernel

theorem test_meets_BundleReassemblesToItsPayload : (List.replicate 65025 (0x41 : Byte)).length ≤ 65025 :=
  Nat.le_of_eq List.length_replicate

theorem test_meets_StreamIsTheEncodedFrame :
    255 ≤ SendKind.msg.maxLen ∧ 65025 ≤ SendKind.bundle.maxLen ∧ streamLen ⟨.bundle, 65025, 1, 2, 40⟩ = 66052 := by decide

theorem test_meets_FragmentCountRoundTrip :
    [1, 9, 10, 99, 100, 255].map (fun n => parseCount (0x30 :: formatCount n) false) =
      [some 1, some 9, some 10, some 99, some 100, some 255] := by decide

/-- Each outcome has a literal: "None", "255.999", "256"; a literal of the grammar by its parts. -/
theorem test_meets_MultiplierLiteralGrammar :
    parseMult [0x4E, 0x6F, 0x6E, 0x65] = .inf ∧
    parseMult ([0x32, 0x35, 0x35] ++ 0x2E :: [0x39, 0x39, 0x39]) = .value 0xFFFF ∧
    decimal [0x32, 0x35, 0x35] * 256 + decimal [0x39, 0x39, 0x39] * 256 / 10 ^ 3 = 0xFFFF ∧
    parseMult [0x32, 0x35, 0x36] = .reject := by decide

theorem test_meets_TimeoutAndPacingAreCeilings :
    (1 ≤ 300 ∧ timeoutCycles 2400 5 1 false 300 = some 2 ∧ 5 * 8 * 1 * 2400 ≤ 2 * (300 * 256)) ∧
    (255 ≤ 255 ∧ 65535 ≤ 65535 ∧ 2 ^ 32 - 1 < 2 ^ 32 ∧ 255 * 8 * 65535 * (2 ^ 32 - 1) < 2 ^ 60) ∧
    (1 ≤ 2400 ∧ 1 ≤ 7 ∧ 8 * 1 * 2400 ≤ 2743 * 7) := by decide

theorem test_meets_RxbufHoldsTheClassifiedBody :
    let s := frameIn base ⟨10, 7, 255, 40⟩ [0x31, 0x32];
    s.rxbuf.wf ∧ s.rx.bcnt ≤ s.rx.cur.len.toNat ∧ ∃ t, classify s = .next t := ⟨by decide +kernel, by decide, _, rfl⟩

/-! ## What the statements assume is met: the engines -/

/-- Cycles in which the channel offers nothing deliver nothing. -/
theorem delivers_idle (n : Nat) (b : Byte) (bs : List Byte) (inps : List Input) (h : Delivers (b :: bs) inps) :
    Delivers (b :: bs) (List.replicate n Input.idle ++ inps) := by
  induction n with
  | zero => exact h
  | succ n ih => exact ⟨rfl, ih⟩

/-- `s` before the second of two fragments, whose body goes to RXBUF[1]. -/
def secondHeader (s : State) : State :=
  { s with
    rx := { s.rx with rs := .fhdr, top := ⟨1, 7, 0, 2⟩, nfrag := 2, fidx := 1, boff := 1, rsum := 1, fcode := 9 }
    rxbuf := [(0, 0x41)] }

/-- "hi" as a message and as a fragment, with a gap in the header and the last byte in the last cycle of its timeout of
192 cycles (X3). -/
theorem test_meets_MessageIsReceivedWhole :
    (base.rx.rs.inHeader = true ∧ base.rx.hcnt = 0 ∧ base.rxbuf.wf ∧ nextBase base + 2 ≤ 65025) ∧
    ((secondHeader base).rx.rs.inHeader = true ∧ (secondHeader base).rx.hcnt = 0 ∧ (secondHeader base).rxbuf.wf ∧
      nextBase (secondHeader base) + 2 ≤ 65025) ∧
    Delivers (headerEncode ⟨2, 1, 255, 1⟩) [offers 2, Input.idle, offers 1, offers 255, offers 1] ∧
    Delivers [0x68, 0x69] (offers 0x68 :: (List.replicate 191 Input.idle ++ [offers 0x69])) ∧
    sampledTimeout base 2 = some 192 ∧ sampledTimeout (secondHeader base) 2 = some 192 ∧
    (offers 0x68 :: (List.replicate 191 Input.idle ++ [offers 0x69])).length = 192 + 1 := by
  refine ⟨by decide, by decide, ?_, ⟨rfl, rfl, delivers_idle _ _ _ _ ⟨rfl, rfl, trivial⟩⟩, by decide, by decide, rfl⟩
  simp [Delivers, headerEncode, offers, Input.idle]

/-- L1.6: six of ten declared bytes, then none until the 961 body cycles of a timeout of 960 are over. -/
theorem test_meets_MessageIsReceivedWhole_short :
    Delivers (headerEncode ⟨10, 7, 255, 40⟩) [offers 10, offers 7, offers 255, offers 40] ∧
    Delivers (List.replicate 6 0x41) (List.replicate 6 (offers 0x41)) ∧
    (∀ inp ∈ List.replicate 955 Input.idle, inp.rxValid = false ∧ inp.rxFault = false) ∧
    sampledTimeout base 10 = some 960 ∧
    (List.replicate 6 (offers 0x41)).length + (List.replicate 955 Input.idle).length = 960 + 1 := by
  refine ⟨?_, ?_, fun inp h => ?_, by decide, by rw [List.length_replicate, List.length_replicate]⟩
  · simp [Delivers, headerEncode, offers, Input.idle]
  · simp [List.replicate, Delivers, offers, Input.idle]
  · rw [List.eq_of_mem_replicate h]
    exact ⟨rfl, rfl⟩

/-- R242, R243 for a fragment: its fourth header byte leads to FBODY, its body byte to RXBUF[boff + bcnt]. -/
theorem test_fragment_reading :
    (let s := secondHeader base;
      got (rxStep (offers 9) { s with rx := { s.rx with hb0 := 2, hb1 := 7, hcnt := 3 } }) fun t =>
        (t.rx.rs, t.rx.cur, t.rx.tmo, t.rx.e)) = some (.fbody, ⟨2, 7, 0, 9⟩, some 192, 0) ∧
    (let s := secondHeader base;
      got (rxStep (offers 0x42) { s with rx := { s.rx with rs := .fbody, cur := ⟨2, 7, 0, 9⟩, tmo := some 192 } })
        fun t => (t.rxbuf, t.rx.bcnt, t.rx.e)) = some ([(0, 0x41), (1, 0x42)], 1, 1) := by decide +kernel

theorem test_meets_ChannelFaultPriorities :
    base.rx.rs.inHeader = true ∧
    (let s := { frameIn base ⟨2, 1, 255, 1⟩ [0x68] with rx := { (frameIn base ⟨2, 1, 255, 1⟩ [0x68]).rx with tmo := some 1 } };
      s.rx.rs.inBody = true ∧ s.rx.bcnt ≠ s.rx.cur.len.toNat ∧ s.rx.e = 1 ∧ bodyOver s = false) ∧
    (let s := frameIn base ⟨2, 1, 255, 1⟩ [0x68];
      s.rx.rs.inBody = true ∧ s.rx.tmo = some 0 ∧ 0 < s.rx.e) ∧
    (frameIn base ⟨1, 1, 255, 1⟩ [0x68]).rx.bcnt = 1 ∧
    (waiting base .text 0 1).rx.rs = .dwait := by decide

theorem test_meets_RxReadyRule :
    ∃ t, step (base.given (offers 0x55)) = .next t ∧ t.env.out.rxReady = true := ⟨_, rfl, rfl⟩

/-- No port waits; port 0 waits and is first after the granted port 1. -/
theorem test_meets_GrantIsRoundRobin :
    (base.tx.ts = .idle ∧ ∀ p < base.params.nport, base.pst p ≠ .waitlock) ∧
    (lockWaiting.tx.ts = .idle ∧ 0 < lockWaiting.params.nport ∧
      lockWaiting.pst ((lockWaiting.tx.rr + 1 + 0) % lockWaiting.params.nport) = .waitlock ∧
      lockWaiting.ports[(lockWaiting.tx.rr + 1 + 0) % lockWaiting.params.nport]? =
        some { resetPort with pst := .waitlock, sc := ⟨.msg, 2, 1, 255, 1⟩ }) := by decide

/-- In the middle of a chunk, at the end of a chunk, and at the end of the stream. -/
theorem test_meets_SendCycleMovesOneByte :
    [sending base 0 0, sending base 3 3, sending base 5 1].all (fun s =>
      s.tx.ts == .send && decide (s.tx.pos < s.tx.total) && s.ports[s.tx.gp]? == some activePort) = true := by decide

theorem test_meets_PacingLastsItsCount :
    (let s := pacing base 4 2;
      s.tx.ts = .pace ∧ s.ports[s.tx.gp]? = some activePort ∧ [Input.idle].length < s.tx.pr ∧
      [Input.idle, Input.idle].length = s.tx.pr ∧ s.tx.pos ≠ s.tx.total) ∧
    (let s := pacing base 6 1;
      s.tx.ts = .pace ∧ s.ports[s.tx.gp]? = some activePort ∧ [Input.idle].length = s.tx.pr ∧
      s.tx.pos = s.tx.total) := by decide

/-- Six bytes in chunks of 4 take 6 + 256 + 128 cycles. -/
theorem test_meets_SendTakesItsTransfersAndWaits :
    let s := sending base 0 0;
    s.tx.ts = .send ∧ s.tx.pos = 0 ∧ s.tx.cpos = 0 ∧ 1 ≤ s.tx.csize ∧ 1 ≤ s.tx.total ∧ 1 ≤ s.params.clkHz ∧ s.bps ≠ 0 ∧
    s.ports[s.tx.gp]? = some activePort ∧
    (∀ inp ∈ List.replicate 390 accepting, inp.txReady = true ∧ inp.txFault = false) ∧
    (List.replicate 390 accepting).length =
      s.tx.total + s.tx.total / s.tx.csize * paceCycles s.params.clkHz s.tx.csize s.bps.toNat +
        (if s.tx.total % s.tx.csize = 0 then 0
          else paceCycles s.params.clkHz (s.tx.total % s.tx.csize) s.bps.toNat) := by
  refine ⟨rfl, rfl, rfl, by decide, by decide, by decide, by decide, rfl, fun inp h => ?_, by decide +kernel⟩
  rw [List.eq_of_mem_replicate h]
  exact ⟨rfl, rfl⟩

/-! ## What the statements assume is met: the bus -/

/-- The first word, the word that holds byte 65024, and the last word of the windows of an idle and of a busy port. -/
theorem test_meets_TxbufWindowWrites :
    [(0, 0), (0, 65024), (1, 65532)].all (fun x =>
      Input.byteAddr (busWriteOf (0x20000 + 0x10000 * x.1 + x.2) 0x44332211) == 0x20000 + 0x10000 * x.1 + x.2) = true ∧
    base.params.Legal ∧ 1 < base.params.nport ∧ resetPort.txbuf.wf ∧ base.ports[1]? = some resetPort ∧
    activePort.txbuf.wf ∧ (sending base 0 0).ports[0]? = some activePort := by decide +kernel

theorem test_meets_ConfigurationWrites :
    WritesWord (busWriteOf 0x10 0x1207) 0x10 0x1207 ∧ WritesWord (busWriteOf 0x14 0x10180) 0x14 0x10180 ∧
    WritesWord (busWriteOf 0x18 0) 0x18 0 ∧ WritesWord (busWriteOf 0x18 1) 0x18 1 ∧
    WritesWord (busWriteOf 0x1C 0x10000) 0x1C 0x10000 ∧ WritesWord (busWriteOf 0x1C 0xFFFF) 0x1C 0xFFFF := by decide

theorem test_meets_PortRegisterAndStickyBitWrites :
    1 < base.params.nport ∧ base.params.Legal ∧ base.ports[1]? = some resetPort ∧
    [0x0C, 0x10, 0x14, 0x18, 0x1C, 0x20, 0x04].all (fun o =>
      Input.byteAddr (busWriteOf (0x100 + 0x100 * 1 + o) 8) == 0x100 + 0x100 * 1 + o) = true ∧
    WritesWord (busWriteOf 0x20C 0x12345678) 0x20C 0x12345678 ∧ WritesWord (busWriteOf 0x0C 4) 0x0C 4 := by decide

/-- A write of each kind: unmapped, partially strobed, to a read-only register, to the windows. -/
theorem test_meets_IneffectiveBusAccesses :
    base.ports.length = base.params.nport ∧ base.params.Legal ∧
    [0x2C, 0x64, 0x100, 0x10, 0xC00, 0xFFC, 0x10000, 0x1FFFC, 0x108, 0x00, 0x300, 0x3FFFC, 0x40000].map (fun a =>
        Input.target (busWriteOf a 1) base) =
      [.unmapped, .unmapped, .port 0 .pcmd, .glob .devAddr, .slot 0, .slot 255, .rxbuf 0, .rxbuf 65532, .port 0 .presult,
        .glob .id, .unmapped, .txbuf 1 65532, .unmapped] ∧
    (partialWriteOf 0x10000 1).busWstrb ≠ 0b1111 ∧
    [0x10, 0x00, 0x108, 0xC00, 0x10000].map (fun a => Input.target (partialWriteOf a 1) base) =
      [.glob .devAddr, .glob .id, .port 0 .presult, .slot 0, .rxbuf 0] ∧
    GlobalReg.id ∉ [GlobalReg.gstatus, .devAddr, .tmult, .bps, .chunk, .dispAck] := by decide

/-- Steps that read the last global register, TMULT, a register of the last port, slot words 1 and 255, a window word past
the buffer, and an unmapped address, with what the reset state of the spec makes of each. -/
theorem test_meets_StatusWordsHaveTheSpecsFields :
    base.params.Legal ∧ base.ports.length = base.params.nport ∧ base.ports[1]? = some resetPort ∧
    base.slots[1]? = some .text ∧ resetPort.err = .ok ∧
    [0x60, 0x14, 0x218, 0xC04, 0xFFC, 0x1FFFC, 0x3FFFC, 0x64].map (fun a =>
        got (step (base.given (busReadOf a))) fun t => (t.env.out.busRdata, t.env.out.busResp)) =
      [some (some 0, some false), some (some 0x180, some false), some (some 0, some false), some (some 1, some false),
        some (some 0, some false), some (some 0, some false), some (some 0, some false), some (some 0, some true)] := by
  decide +kernel

/-- The first and the last address of each region are mapped, and the addresses beside them are not. -/
theorem test_mapped_boundaries :
    ([0xC00, 0xFFC, 0x10000, 0x1FFFC, 0x20000, 0x3FFFC].all fun a =>
      (0xC00 ≤ a && a < 0x1000) || (0x10000 ≤ a && a < 0x20000) ||
        (0x20000 ≤ a && a < 0x20000 + 0x10000 * base.ports.length)) = true ∧
    (0x60 ∈ (globalWords base).map Prod.fst ∧ 0x64 ∉ (globalWords base).map Prod.fst) ∧
    (0x20 ∈ (portWords resetPort).map Prod.fst ∧ 0x24 ∉ (portWords resetPort).map Prod.fst) ∧
    ¬ Mapped base 0x40000 := by
  refine ⟨by decide, by decide, by decide, ?_⟩
  rintro (⟨w, h⟩ | ⟨p, o, P, w, h1, h2, h3⟩ | h | h | h)
  · have hg : 0x40000 ∈ (globalWords base).map Prod.fst := List.mem_map_of_mem (f := Prod.fst) h
    revert hg
    decide
  · have hp : p < 2 := (List.getElem?_eq_some_iff.1 h1).1
    have ho : o ∈ (portWords P).map Prod.fst := List.mem_map_of_mem (f := Prod.fst) h2
    simp [portWords] at ho
    omega
  · omega
  · omega
  · have : base.ports.length = 2 := rfl
    omega

theorem test_meets_ReadsHaveNoSideEffect :
    (busReadOf 0x50).busWrite = false ∧ ∃ t, step (base.given (busReadOf 0x50)) = .next t := ⟨rfl, _, rfl⟩

/-- What TMULT is after a cycle with a MULT frame of body `body` and a host write of 7 to TMULT, where INF is `inf`. -/
def multRace (inf : Bool) (body : List Byte) : Option (TMult × TMult) :=
  let s := { frameIn base ⟨BitVec.ofNat 8 body.length, 1, 0, 3⟩ body with tmult := ⟨0x0180, inf⟩ }
  match activeCycle (busWriteOf 0x14 7) s, rxStep (busWriteOf 0x14 7) s with
  | .next t, .next r => some (t.tmult, r.tmult)
  | _, _ => none

/-- The MULT handler and the host in one cycle, with "2", with "None" where INF is clear and where it is set, and with
"256", which is rejected; and the host alone. -/
theorem test_meets_MultHandlerWinsOverTheHost :
    (let s := frameIn base ⟨1, 1, 0, 3⟩ [0x32];
      SlotsOk s ∧ s.halted = false ∧ WritesWord (busWriteOf 0x14 7) 0x14 7 ∧ completing s = some 3 ∧ FrameAccepted s) ∧
    [multRace false [0x32], multRace false [0x4E, 0x6F, 0x6E, 0x65], multRace true [0x4E, 0x6F, 0x6E, 0x65],
      multRace false [0x32, 0x35, 0x36]] =
      [some (⟨0x200, false⟩, ⟨0x200, false⟩), some (⟨0x180, true⟩, ⟨0x180, true⟩),
        some (⟨0x180, true⟩, ⟨0x180, true⟩), some (⟨7, false⟩, ⟨0x180, false⟩)] ∧
    (SlotsOk base ∧ (∃ t, activeCycle (busWriteOf 0x14 7) base = .next t ∧ (t.tmult == ⟨7, false⟩) = true) ∧
      (∃ r, rxStep (busWriteOf 0x14 7) base = .next r) ∧ completing base ≠ some 3) :=
  ⟨⟨⟨by decide +kernel, by decide +kernel, by decide +kernel⟩, rfl, by decide, rfl, .inr rfl⟩, by decide +kernel,
    ⟨by decide +kernel, by decide +kernel, by decide +kernel⟩, next_with _ (by decide +kernel), ⟨_, rfl⟩, by decide⟩

/-! ## What the statements assume is met: reset, HALTED, the invariant -/

theorem test_meets_ResetCycleRebuildsTheState :
    let s := (sending bound 3 3).given { busReadOf 0x0C with rst := true };
    (nextInput s).rst = true ∧ (nextInput s).busValid = true ∧ (nextInput s).busWrite = false := ⟨rfl, rfl, rfl⟩

/-- A HALTED cycle with a write and one with a read. -/
theorem test_meets_HaltedBlockIsFrozen :
    (let s := ({ bound with halted := true }).given (busWriteOf 0x10 1);
      s.halted = true ∧ (nextInput s).rst = false ∧ (nextInput s).busValid = true ∧ (nextInput s).busWrite = true) ∧
    (let s := ({ bound with halted := true }).given (busReadOf 0x0C);
      s.halted = true ∧ (nextInput s).rst = false ∧ (nextInput s).busValid = true ∧ (nextInput s).busWrite = false) :=
  ⟨⟨rfl, rfl, rfl, rfl⟩, rfl, rfl, rfl, rfl⟩

/-- The invariant holds in a state that is not the reset state, and the state steps. -/
theorem test_meets_StepKeepsTheInvariant :
    let s := (frameIn (sending base 3 3) ⟨0, 7, 0, 5⟩ []).given accepting;
    Inv s ∧ ∃ t, step s = .next t ∧ (t.halted == true) = true := by
  refine ⟨?_, next_with _ (by decide +kernel)⟩
  have h := test_inv_exit_while_sending
  exact ⟨h.params, ⟨h.slots.length, h.slots.reserved, h.slots.user⟩, ⟨h.buffers.rxbuf, h.buffers.txbuf⟩,
    ⟨h.rx.hcnt, h.rx.bcnt, h.rx.frags, h.rx.sums, h.rx.bundle, h.rx.pend, h.rx.disp, h.rx.view⟩,
    ⟨h.tx.ports, h.tx.granted, h.tx.config, h.tx.csize, h.tx.free, h.tx.held, h.tx.stream, h.tx.send, h.tx.pace,
      h.tx.captured⟩, h.halt⟩

end Sys2Proof.Machine
end

section
/-! Bus reads have no side effect (20_memory.md R81).

Without a write, a transaction reaches the block only through the list of inputs in the environment record. So the proof
has two parts: every agent's part of a cycle commutes with a change of that list, and without a write it does not look
at the transaction presented. -/

namespace Sys2Proof.Machine

/-! ## Another list of inputs

The lemmas named `_withInputs` say that a function of the model commutes with the change of the list, or does not look at
it. -/

/-- The same state with another list of inputs to come. -/
def State.withInputs (s : State) (l : List Input) : State := { s with env := { s.env with inputs := l } }

/-- The same answer with another list of inputs to come in the next state. -/
def resultWithInputs (r : Result) (l : List Input) : Result := andThen r fun t => .next (t.withInputs l)

@[simp] theorem withInputs_halted (s : State) (l : List Input) : (s.withInputs l).halted = s.halted := rfl

@[simp] theorem withInputs_rx (s : State) (l : List Input) : (s.withInputs l).rx = s.rx := rfl

@[simp] theorem withInputs_tx (s : State) (l : List Input) : (s.withInputs l).tx = s.tx := rfl

@[simp] theorem resultWithInputs_next (s : State) (l : List Input) :
    resultWithInputs (.next s) l = .next (s.withInputs l) := rfl

/-- A sequence of operations commutes with a change of the inputs where both operations do. -/
theorem andThen_resultWithInputs {f f' : State → Result} {l : List Input} (r : Result)
    (hf : ∀ s, f' (s.withInputs l) = resultWithInputs (f s) l) :
    andThen (resultWithInputs r l) f' = resultWithInputs (andThen r f) l := by
  cases r with
  | next s => exact hf s
  | fault x => rfl
  | refused x => rfl

/-! ## Frames -/

@[simp] theorem isBroken_withInputs (s : State) (l : List Input) : isBroken (s.withInputs l) = isBroken s := rfl

@[simp] theorem bodyBase_withInputs (s : State) (l : List Input) : bodyBase (s.withInputs l) = bodyBase s := rfl

@[simp] theorem rxBytes_withInputs (s : State) (l : List Input) (n : Nat) :
    (s.withInputs l).rxBytes n = s.rxBytes n := rfl

theorem classify_withInputs (s : State) (l : List Input) :
    classify (s.withInputs l) = resultWithInputs (classify s) l := by
  unfold classify
  rw [isBroken_withInputs, bodyBase_withInputs, withInputs_rx]
  split
  · split <;> rfl
  · rfl

theorem apply_withInputs (x : Action) (c : Byte) (s : State) (l : List Input) :
    x.apply c (s.withInputs l) = (x.apply c s).withInputs l := by
  cases x <;> rfl

/-- The decision on a frame looks at RXBUF, whose free bytes depend on the reset count, and at no input to come. -/
@[simp] theorem frameAction_withInputs (F : Frame) (s : State) (l : List Input) :
    frameAction F (s.withInputs l) = frameAction F s := rfl

theorem deliver_withInputs (F : Frame) (s : State) (l : List Input) :
    deliver F (s.withInputs l) = (deliver F s).withInputs l := by
  rw [deliver_eq, deliver_eq, frameAction_withInputs, ← apply_withInputs]
  rfl

theorem completeFrame_withInputs (c : Byte) (s : State) (l : List Input) :
    completeFrame c (s.withInputs l) = resultWithInputs (completeFrame c s) l := by
  unfold completeFrame
  rw [classify_withInputs]
  refine andThen_resultWithInputs _ fun s1 => ?_
  rw [withInputs_rx]
  split
  · exact congrArg Host.Outcome.next (deliver_withInputs (bundleFrame c s) (closeFragment s s1) l)
  · exact congrArg Host.Outcome.next (deliver_withInputs (topFrame c s) s1 l)

theorem startBundle_withInputs (s : State) (l : List Input) :
    startBundle (s.withInputs l) = resultWithInputs (startBundle s) l := by
  unfold startBundle
  rw [classify_withInputs]
  refine andThen_resultWithInputs _ fun s1 => ?_
  rw [rxBytes_withInputs, withInputs_rx, isBroken_withInputs]
  split <;> rfl

theorem endFragment_withInputs (s : State) (l : List Input) :
    endFragment (s.withInputs l) = resultWithInputs (endFragment s) l := by
  unfold endFragment
  rw [classify_withInputs]
  exact andThen_resultWithInputs _ fun _ => rfl

/-- A frame instruction commutes with a change of the inputs: it completes a frame or starts a bundle. -/
theorem exec_frame_withInputs {i : Instr} {c : Byte} (hi : i.code? = some c) (s : State) (l : List Input) :
    exec i (s.withInputs l) = resultWithInputs (exec i s) l := by
  by_cases hf : s.rx.rs = .fbody
  · rw [exec_frame_fbody hi hf, exec_frame_fbody hi (s := s.withInputs l) hf]
    exact completeFrame_withInputs c s l
  · by_cases hc : c = 2
    · subst hc
      rw [eq_bundleHeader hi, exec_bundleHeader hf, exec_bundleHeader (s := s.withInputs l) hf]
      exact startBundle_withInputs s l
    · rw [exec_frame hi hc, exec_frame hi hc]
      exact completeFrame_withInputs c s l

/-! ## The RX engine -/

theorem headerCycle_withInputs (inp : Input) (s : State) (l : List Input) :
    headerCycle inp (s.withInputs l) = (headerCycle inp s).withInputs l := by
  unfold headerCycle
  split
  · rfl
  · split
    · unfold takeHeaderByte
      rw [withInputs_rx]
      split <;> rfl
    · rfl

theorem readBody_withInputs (inp : Input) (s : State) (l : List Input) :
    readBody inp (s.withInputs l) = resultWithInputs (readBody inp s) l := by
  unfold readBody
  rw [bodyBase_withInputs, withInputs_rx]
  split
  · rfl
  · split
    · split <;> rfl
    · rfl

@[simp] theorem bodyOver_withInputs (s : State) (l : List Input) : bodyOver (s.withInputs l) = bodyOver s := rfl

@[simp] theorem completing_withInputs (s : State) (l : List Input) : completing (s.withInputs l) = completing s := rfl

theorem classifyCycle_withInputs (s : State) (l : List Input) :
    classifyCycle (s.withInputs l) = resultWithInputs (classifyCycle s) l := by
  unfold classifyCycle
  rw [completing_withInputs]
  split
  · exact exec_frame_withInputs (code_decodeCode _) s l
  · exact endFragment_withInputs s l

theorem bodyCycle_withInputs (inp : Input) (s : State) (l : List Input) :
    bodyCycle inp (s.withInputs l) = resultWithInputs (bodyCycle inp s) l := by
  unfold bodyCycle
  rw [bodyOver_withInputs]
  split
  · exact classifyCycle_withInputs s l
  · exact readBody_withInputs inp s l

theorem rxStep_withInputs (inp : Input) (s : State) (l : List Input) :
    rxStep inp (s.withInputs l) = resultWithInputs (rxStep inp s) l := by
  unfold rxStep
  rw [withInputs_rx]
  cases s.rx.rs with
  | hdr => exact congrArg Host.Outcome.next (headerCycle_withInputs inp s l)
  | fhdr => exact congrArg Host.Outcome.next (headerCycle_withInputs inp s l)
  | body => exact bodyCycle_withInputs inp s l
  | fbody => exact bodyCycle_withInputs inp s l
  | dwait => rfl
  | dead => rfl

/-- Whether the MULT handler writes TMULT does not depend on the inputs to come. -/
theorem multWrites_withInputs (s : State) (l : List Input) : multWrites (s.withInputs l) = multWrites s := by
  unfold multWrites
  rw [completing_withInputs, classify_withInputs]
  cases completing s with
  | none => rfl
  | some c => cases classify s <;> rfl

/-! ## The TX engine -/

@[simp] theorem nextGrant_withInputs (s : State) (l : List Input) : nextGrant (s.withInputs l) = nextGrant s := rfl

theorem grantCycle_withInputs (pre s : State) (l : List Input) :
    grantCycle (pre.withInputs l) (s.withInputs l) = (grantCycle pre s).withInputs l := by
  unfold grantCycle
  rw [nextGrant_withInputs]
  split <;> rfl

theorem sendCycle_withInputs (inp : Input) (pre s : State) (l : List Input) :
    sendCycle inp (pre.withInputs l) (s.withInputs l) = resultWithInputs (sendCycle inp pre s) l := by
  unfold sendCycle
  rw [withInputs_tx]
  split
  · rfl
  · split
    · rfl
    · split <;> rfl

theorem paceCycle_withInputs (pre s : State) (l : List Input) :
    paceCycle (pre.withInputs l) (s.withInputs l) = (paceCycle pre s).withInputs l := by
  unfold paceCycle
  rw [withInputs_tx]
  split
  · split <;> rfl
  · rfl

theorem txCycle_withInputs (inp : Input) (pre s : State) (l : List Input) :
    txCycle inp (pre.withInputs l) (s.withInputs l) = resultWithInputs (txCycle inp pre s) l := by
  unfold txCycle
  rw [withInputs_tx]
  cases pre.tx.ts with
  | idle => exact congrArg Host.Outcome.next (grantCycle_withInputs pre s l)
  | send => exact sendCycle_withInputs inp pre s l
  | pace => exact congrArg Host.Outcome.next (paceCycle_withInputs pre s l)

/-! ## Cycles without a write -/

/-- The input presents no bus write: a read, or no transaction. -/
def NoWrite (inp : Input) : Prop := inp.busValid = false ∨ inp.busWrite = false

/-- The same input with no bus transaction. -/
def withoutBus (inp : Input) : Input := { inp with busValid := false }

@[simp] theorem txCycle_withoutBus (inp : Input) (pre s : State) :
    txCycle (withoutBus inp) pre s = txCycle inp pre s := rfl

@[simp] theorem rxStep_withoutBus (inp : Input) (s : State) : rxStep (withoutBus inp) s = rxStep inp s := rfl

/-- The host bus's part of a cycle without a write does nothing. -/
theorem hostCycle_of_noWrite {inp : Input} (h : NoWrite inp) (s : State) : hostCycle inp s = .next s := by
  unfold hostCycle
  rcases h with h | h <;> simp [h]

/-- Without a write no dispatch is acknowledged. -/
theorem acked_of_noWrite {inp : Input} (h : NoWrite inp) (s : State) : acked inp s = false := by
  unfold acked Input.writesGlobal
  rcases h with h | h <;> simp [h]

/-- The RX engine's part of a cycle without a write is the engine's own step. -/
theorem rxCycle_of_noWrite {inp : Input} (h : NoWrite inp) (s : State) : rxCycle inp s = rxStep inp s := by
  unfold rxCycle
  rw [acked_of_noWrite h]
  cases rxStep inp s <;> rfl

theorem joinAgents_withInputs (s a r : State) (l : List Input) :
    joinAgents (s.withInputs l) (a.withInputs l) (r.withInputs l) = (joinAgents s a r).withInputs l := by
  have hj : joinRx (s.withInputs l) (a.withInputs l) (r.withInputs l) = (joinRx s a r).withInputs l := by
    unfold joinRx
    rw [multWrites_withInputs]
    rfl
  unfold joinAgents
  rw [hj, withInputs_halted]
  split <;> rfl

/-- The agents' parts of a cycle without a write, with the transaction taken away and another list of inputs to come:
the host bus does nothing, and the engines do not look at the bus. -/
theorem agents_withoutBus {inp : Input} (hw : inp.busWrite = false) {s h a r : State} (l : List Input)
    (h1 : hostCycle inp s = .next h) (h2 : txCycle inp s h = .next a) (h3 : rxCycle inp s = .next r) :
    hostCycle (withoutBus inp) (s.withInputs l) = .next (h.withInputs l) ∧
      txCycle (withoutBus inp) (s.withInputs l) (h.withInputs l) = .next (a.withInputs l) ∧
      rxCycle (withoutBus inp) (s.withInputs l) = .next (r.withInputs l) := by
  have hn : NoWrite inp := .inr hw
  have hn' : NoWrite (withoutBus inp) := .inl rfl
  rw [hostCycle_of_noWrite hn] at h1
  rw [rxCycle_of_noWrite hn] at h3
  cases h1
  refine ⟨hostCycle_of_noWrite hn' _, ?_, ?_⟩
  · rw [txCycle_withInputs, txCycle_withoutBus, h2, resultWithInputs_next]
  · rw [rxCycle_of_noWrite hn', rxStep_withInputs, rxStep_withoutBus, h3, resultWithInputs_next]

/-! ## The obligation -/

/-- Settles O53: in a reset cycle, a HALTED cycle and a cycle of the agents alike, the two next states are one state
beside two environment records. -/
theorem readsHaveNoSideEffect : Obligations.ReadsHaveNoSideEffect := by
  intro s t inp hw ht
  show ∃ t', step ((s.given inp).withInputs (withoutBus inp :: s.env.inputs)) = .next t' ∧ SameBlock t t'
  rcases step_eq_next.1 ht with ⟨hrst, rfl⟩ | ⟨hrst, hh, rfl⟩ | ⟨hrst, hh, h, a, r, h1, h2, h3, rfl⟩
  case inl => exact ⟨_, step_eq_next.2 (.inl ⟨hrst, rfl⟩), rfl⟩
  case inr.inl => exact ⟨_, step_eq_next.2 (.inr (.inl ⟨hrst, hh, rfl⟩)), rfl⟩
  case inr.inr =>
    obtain ⟨h1', h2', h3'⟩ := agents_withoutBus hw (withoutBus inp :: s.env.inputs) h1 h2 h3
    refine ⟨_, step_eq_next.2 (.inr (.inr ⟨hrst, hh, _, _, _, h1', h2', h3', rfl⟩)), ?_⟩
    rw [joinAgents_withInputs]
    rfl

end Sys2Proof.Machine
end

section
/-! Fragment counts, and the discarded bundle header (30_encoding.md R105, 40_codec.md R150, 43_engine_rx.md R247).

A header message is classified first and its count read after it. Classification alone pads the body and counts a broken
frame; where there is no valid count, what is left is one more counter and the next header. -/

namespace Sys2Proof.Machine

/-! ## ParseCount -/

@[simp] theorem decimal_nil : decimal [] = 0 := rfl

/-- A digit on the right is the least significant one. -/
theorem decimal_append_singleton (ds : List Byte) (b : Byte) :
    decimal (ds ++ [b]) = 10 * decimal ds + (b.toNat - 0x30) := by
  unfold decimal
  rw [List.foldl_append, List.foldl_cons, List.foldl_nil]

theorem isDigit_eq_false (b : Byte) : isDigit b = false ↔ b.toNat < 0x30 ∨ 0x39 < b.toNat := by
  simp only [isDigit, Bool.and_eq_false_iff, decide_eq_false_iff_not, Nat.not_le]

theorem all_isDigit_eq_false (body : List Byte) :
    body.all isDigit = false ↔ ∃ b ∈ body, b.toNat < 0x30 ∨ 0x39 < b.toNat := by
  simp [List.all_eq_false, isDigit_eq_false]

/-- The bodies that hold no valid fragment count. -/
theorem parseCount_eq_none {body : List Byte} {broken : Bool} :
    parseCount body broken = none ↔
      broken = true ∨ body = [] ∨ (∃ b ∈ body, b.toNat < 0x30 ∨ 0x39 < b.toNat) ∨ decimal body < 1 ∨
        255 < decimal body := by
  rw [← all_isDigit_eq_false]
  unfold parseCount
  split
  case isTrue h =>
    have : broken = true ∨ body = [] ∨ body.all isDigit = false := by simpa [or_assoc] using h
    tauto
  case isFalse h =>
    have : broken = false ∧ body ≠ [] ∧ body.all isDigit = true := by simpa [and_assoc] using h
    split <;> simp_all

/-- A valid fragment count is the decimal value. -/
theorem parseCount_some {body : List Byte} {broken : Bool} {n : Nat} (h : parseCount body broken = some n) :
    n = decimal body := by
  unfold parseCount at h
  split at h
  · cases h
  · split at h
    · cases h
    · cases h
      rfl

/-- A broken header message holds no valid count, whatever its body. -/
theorem parseCount_broken (body : List Byte) : parseCount body true = none := parseCount_eq_none.2 (.inl rfl)

/-! ## The discarded bundle header -/

/-- Classification counts a broken frame and no other. -/
theorem classify_broken {s t : State} (h : classify s = .next t) : t.cnt.broken = s.cnt.broken + brokenInc s := by
  unfold brokenInc
  rcases classify_eq_next.1 h with ⟨hb, rfl⟩ | ⟨hb, _, rfl⟩
  case inl => simp [hb]
  case inr => simp [hb]

/-- The classification of a whole frame changes nothing. -/
theorem classify_whole {s t : State} (h : classify s = .next t) (hb : isBroken s = false) : t = s := by
  rcases classify_eq_next.1 h with ⟨_, rfl⟩ | ⟨hb', _⟩
  case inl => rfl
  case inr => rw [hb] at hb'; cases hb'

/-- The count is read from the body after its padding (R247): there is none in a broken message, and the body of a whole
one is as it was. -/
theorem parseCount_classified {s t : State} (h : classify s = .next t) {n : Nat}
    (hv : isBroken s = true ∨ parseCount (s.rxBytes n) false = none) :
    parseCount (t.rxBytes n) (isBroken s) = none := by
  cases hb : isBroken s with
  | true => exact parseCount_broken _
  | false =>
    rw [classify_whole h hb]
    exact hv.resolve_left (by simp [hb])

/-- R247: a header message without a valid count is counted, and headers are read next. -/
theorem startBundle_of_noCount {s t : State} (h : classify s = .next t)
    (hn : parseCount (t.rxBytes s.rx.cur.len.toNat) (isBroken s) = none) :
    startBundle s = .next ({ t with cnt := { t.cnt with badbundle := t.cnt.badbundle + 1 } }.setRs .hdr) := by
  unfold startBundle
  rw [h, andThen_next, hn]

/-! ## The obligation -/

/-- Settles O24: `parseCount` by its branches, and the discard as classification followed by one count. -/
theorem invalidBundleCountIsDiscarded : Obligations.InvalidBundleCountIsDiscarded := by
  refine ⟨⟨decimal_nil, decimal_append_singleton⟩,
    fun body broken => ⟨parseCount_eq_none, fun n => parseCount_some⟩, fun s hr hs hv => ?_⟩
  obtain ⟨t, ht⟩ := classify_next hr.fits
  rw [exec_bundleHeader hs, startBundle_of_noCount ht (parseCount_classified ht hv)]
  refine ⟨_, rfl, ?_, ?_⟩
  · show PaddedBody s t
    exact classify_padded ht hr.buffer
  · rw [← classify_broken ht, classify_frame ht]
    rfl

end Sys2Proof.Machine
end

section
/-! The codec's arithmetic: headers, sizes of sends, timeouts and pacing (40_codec.md R140-R142, R146, R147, R153, R156,
R170, R171). -/

namespace Sys2Proof.Machine

/-! ## Headers -/

/-- The header's bytes, read one by one. -/
theorem headerDecode_of_headerEncode {h : Header} {b0 b1 b2 b3 : Byte} (he : headerEncode h = [b0, b1, b2, b3]) :
    headerDecode b0 b1 b2 b3 = h := by
  cases h
  simpa [headerEncode, headerDecode, eq_comm] using he

/-- Settles O4: a header is its four bytes in wire order. -/
theorem headerRoundTrip : Obligations.HeaderRoundTrip :=
  ⟨fun _ _ _ _ _ => headerDecode_of_headerEncode, fun _ _ _ _ => rfl⟩

/-- On byte operands the header check is the size check. -/
theorem headerCheck_of_bytes {s t c : Nat} (hs : s ≤ 255) (ht : t ≤ 255) (hc : c ≤ 255) (len maxlen : Nat) :
    headerCheck len s t c maxlen = if len > maxlen then .oversizedMessage else .ok := by
  unfold headerCheck
  rw [if_neg (by omega)]

/-! ## Fragment counts -/

/-- A payload needs no more than `n` fragments, `n` at least one, exactly where they hold it. -/
theorem fragmentCount_le_iff {n : Nat} (hn : 1 ≤ n) (len : Nat) : fragmentCount len ≤ n ↔ len ≤ 255 * n := by
  unfold fragmentCount cdiv
  omega

theorem one_le_fragmentCount (len : Nat) : 1 ≤ fragmentCount len := Nat.le_max_left _ _

/-- The fragments of a payload hold it. -/
theorem le_mul_fragmentCount (len : Nat) : len ≤ 255 * fragmentCount len :=
  (fragmentCount_le_iff (one_le_fragmentCount len) len).1 (Nat.le_refl _)

/-- Settles O34: 255 fragments hold 65025 bytes and no more. -/
theorem fragmentCountLimit : Obligations.FragmentCountLimit := by
  have limit : ∀ len, fragmentCount len ≤ 255 ↔ len ≤ 65025 := fragmentCount_le_iff (by decide)
  refine ⟨limit, fun len s t c hlen hs ht hc => ⟨?_, ?_⟩⟩
  · have := mt (limit len).1 (by omega)
    omega
  · rw [headerCheck_of_bytes hs ht hc, if_pos (by omega)]

/-! ## Send commands -/

/-- A send that passes its checks waits for the lock (44_engine_tx.md R280). -/
theorem issueSend_accepted {s : State} {p maxlen : Nat} {P : Port} (h : s.ports[p]? = some P) (hp : P.pst = .idle)
    (hc : P.sendCheck maxlen = .ok) (kind : SendKind) :
    issueSend kind maxlen p s = .next (s.withPort p (sendingPort P kind)) := by
  unfold issueSend
  rw [onIdlePort_idle h hp, hc, updPort_eq_withPort h]
  rfl

/-- A send that fails a check completes with that error (44_engine_tx.md R280). -/
theorem issueSend_refused {s : State} {p maxlen : Nat} {P : Port} {e : ErrCode} (h : s.ports[p]? = some P)
    (hp : P.pst = .idle) (hc : P.sendCheck maxlen = e) (he : e ≠ .ok) (kind : SendKind) :
    issueSend kind maxlen p s = .next (s.withPort p (completedPort P e 0)) := by
  have hfail : s.failCommand p e = s.withPort p (completedPort P e 0) := updPort_eq_withPort h _
  unfold issueSend
  rw [onIdlePort_idle h hp, hc, ← hfail]
  cases e with
  | ok => exact absurd rfl he
  | _ => rfl

/-- Settles O35: with byte operands a send is accepted exactly up to its kind's length limit. -/
theorem sendSizeBoundaries : Obligations.SendSizeBoundaries := by
  intro s p P h hp hs ht hc
  have check (maxlen : Nat) : P.sendCheck maxlen = if P.txLen.toNat > maxlen then .oversizedMessage else .ok :=
    headerCheck_of_bytes hs ht hc _ _
  refine ⟨fun hl => issueSend_accepted h hp ?_ _, fun hl => issueSend_refused h hp ?_ (by decide) _,
    fun hl => issueSend_accepted h hp ?_ _, fun hl => issueSend_refused h hp ?_ (by decide) _, by decide, by decide⟩
  all_goals
    rw [check, hl]
    rfl

/-! ## Ceilings -/

/-- The timeout's numerator at its largest operands is below 2^60 (R170). -/
theorem timeoutNumerator_lt {len mult clk : Nat} (hl : len ≤ 255) (hm : mult ≤ 65535) (hc : clk < 2 ^ 32) :
    len * 8 * mult * clk < 2 ^ 60 :=
  calc len * 8 * mult * clk
    _ ≤ 255 * 8 * 65535 * 2 ^ 32 := by gcongr
    _ < 2 ^ 60 := by norm_num

/-- Settles O40: both are ceiling quotients, so the least numbers that cover the exact values. -/
theorem timeoutAndPacingAreCeilings : Obligations.TimeoutAndPacingAreCeilings := by
  refine ⟨fun clk len mult bps hb => ⟨rfl, ?_, timeoutNumerator_lt⟩, fun clk n bps hc hn hb => ?_⟩
  · obtain ⟨covers, least⟩ := cdiv_spec (a := len * 8 * mult * clk) (show 0 < bps * 256 by omega)
    refine ⟨_, rfl, covers, least, fun hz => Nat.le_zero.1 (least 0 ?_)⟩
    rcases hz with rfl | rfl <;> simp
  · obtain ⟨covers, least⟩ := cdiv_spec (a := 8 * n * clk) hb
    exact ⟨covers, least, paceCycles_pos hc hn (by omega)⟩

end Sys2Proof.Machine
end

section
/-! Reading an encoded bundle back (40_codec.md R146-R151, R155).

The wire image of a bundle is the encoding of one message after another, and reading a frame undoes the encoding of one
message. What is left is that the fragments, put together, are the payload, and that the fragment count is read back from
its digits. -/

namespace Sys2Proof.Machine

/-! ## Messages on the wire -/

/-- The frame that `messageEncode` puts on the wire: header and body. -/
def messageFrame (s t c : Byte) (body : List Byte) : Header × List Byte :=
  (⟨BitVec.ofNat 8 body.length, s, t, c⟩, body)

/-- The declared length of a body of one frame is its length. -/
theorem toNat_declaredLength {n : Nat} (h : n ≤ 255) : (BitVec.ofNat 8 n).toNat = n := by
  rw [BitVec.toNat_ofNat]
  omega

/-- Reading a frame takes one encoded message off the front of a wire image. -/
theorem readFrame_messageEncode (s t c : Byte) {body : List Byte} (h : body.length ≤ 255) (rest : List Byte) :
    readFrame (messageEncode s t c body ++ rest) = some (messageFrame s t c body, rest) := by
  simp [messageEncode, headerEncode, headerDecode, readFrame, messageFrame, toNat_declaredLength h]

/-- One encoded message and then the frames of the rest. -/
theorem readFrames_messageEncode_append (s t c : Byte) {body : List Byte} (h : body.length ≤ 255) (n : Nat)
    (rest : List Byte) :
    readFrames (n + 1) (messageEncode s t c body ++ rest) =
      (readFrames n rest).map (messageFrame s t c body :: ·) := by
  rw [readFrames, readFrame_messageEncode s t c h]

/-- A row of encoded messages reads as their frames. -/
theorem readFrames_flatMap_messageEncode (s t c : Byte) (bodies : List (List Byte))
    (h : ∀ b ∈ bodies, b.length ≤ 255) :
    readFrames bodies.length (bodies.flatMap (messageEncode s t c)) = some (bodies.map (messageFrame s t c)) := by
  induction bodies with
  | nil => rfl
  | cons b bs ih =>
    obtain ⟨hb, hbs⟩ := List.forall_mem_cons.1 h
    rw [List.flatMap_cons, List.length_cons, readFrames_messageEncode_append s t c hb, ih hbs]
    rfl

/-! ## The split of a payload -/

/-- The first `n` chunks of 255 bytes, one after another, are the payload's first bytes. -/
theorem flatten_chunks (payload : List Byte) (n : Nat) :
    ((List.range n).map fun i => (payload.drop (255 * i)).take 255).flatten = payload.take (255 * n) := by
  induction n with
  | zero => rfl
  | succ n ih => simp [List.range_succ, ih, Nat.mul_succ, List.take_add]

/-- The fragments of a payload, put together, are the payload. -/
theorem flatten_bundleSplit (payload : List Byte) : (bundleSplit payload).flatten = payload := by
  rw [bundleSplit, flatten_chunks, List.take_of_length_le (le_mul_fragmentCount _)]

@[simp] theorem length_bundleSplit (payload : List Byte) :
    (bundleSplit payload).length = fragmentCount payload.length := by
  simp [bundleSplit]

/-- Every fragment is the body of one frame. -/
theorem length_le_of_mem_bundleSplit {payload b : List Byte} (h : b ∈ bundleSplit payload) : b.length ≤ 255 := by
  obtain ⟨i, _, rfl⟩ := List.mem_map.1 h
  exact List.length_take_le _ _

/-! ## The fragment count's digits -/

theorem toNat_digit {d : Nat} (h : d < 10) : (digit d).toNat = 0x30 + d := by
  rw [digit, BitVec.toNat_ofNat]
  omega

theorem isDigit_digit {d : Nat} (h : d < 10) : isDigit (digit d) = true := by
  simp only [isDigit, toNat_digit h, Bool.and_eq_true, decide_eq_true_eq]
  omega

/-- The value of digits with one more digit behind them. -/
theorem decimal_append_digit (ds : List Byte) {d : Nat} (h : d < 10) :
    decimal (ds ++ [digit d]) = 10 * decimal ds + d := by
  rw [decimal_append_singleton, toNat_digit h, Nat.add_sub_cancel_left]

/-- A count of up to three digits is written in digits, and they are its value. -/
theorem formatCount_digits {n : Nat} (h : n < 1000) :
    (formatCount n).all isDigit = true ∧ decimal (formatCount n) = n := by
  have ones := isDigit_digit (Nat.mod_lt n (by decide : 0 < 10))
  have value (ds : List Byte) := decimal_append_digit ds (Nat.mod_lt n (by decide : 0 < 10))
  unfold formatCount
  split
  case isTrue h1 =>
    exact ⟨by simp [isDigit_digit h1], by simpa using decimal_append_digit [] h1⟩
  case isFalse h1 =>
    split
    case isTrue h2 =>
      have hd : n / 10 < 10 := by omega
      have tens := decimal_append_digit [] hd
      have units := value [digit (n / 10)]
      refine ⟨by simp [isDigit_digit hd, ones], ?_⟩
      simp only [List.nil_append, List.cons_append, decimal_nil] at tens units
      omega
    case isFalse h2 =>
      have hd : n / 100 < 10 := by omega
      have hm : n / 10 % 10 < 10 := by omega
      have hundreds := decimal_append_digit [] hd
      have tens := decimal_append_digit [digit (n / 100)] hm
      have units := value [digit (n / 100), digit (n / 10 % 10)]
      refine ⟨by simp [isDigit_digit hd, isDigit_digit hm, ones], ?_⟩
      simp only [List.nil_append, List.cons_append, decimal_nil] at hundreds tens units
      omega

theorem formatCount_ne_nil (n : Nat) : formatCount n ≠ [] := by
  unfold formatCount
  split
  · exact List.cons_ne_nil _ _
  · split <;> exact List.cons_ne_nil _ _

/-- A fragment count takes at most three digits. -/
theorem length_formatCount_le (n : Nat) : (formatCount n).length ≤ 3 := by
  unfold formatCount
  split
  · simp
  · split <;> simp

/-- A valid count is read back from its digits. -/
theorem parseCount_formatCount {n : Nat} (h1 : 1 ≤ n) (h2 : n ≤ 255) : parseCount (formatCount n) false = some n := by
  obtain ⟨digits, value⟩ := formatCount_digits (n := n) (by omega)
  have some_count : parseCount (formatCount n) false ≠ none := by
    rw [Ne, parseCount_eq_none, ← all_isDigit_eq_false, digits, value]
    simp only [formatCount_ne_nil, Bool.false_eq_true, Bool.true_eq_false, false_or]
    omega
  obtain ⟨m, hm⟩ := Option.ne_none_iff_exists'.1 some_count
  rw [hm, parseCount_some hm, value]

/-! ## Reassembly -/

@[simp] theorem wholeFragment_messageFrame (s t c : Byte) (b : List Byte) :
    wholeFragment (messageFrame s t c b) = ⟨⟨BitVec.ofNat 8 b.length, s, t, c⟩, b, b.length⟩ := rfl

/-- The declared lengths of whole messages add up to the length of their bodies in a row. -/
theorem sum_declaredLengths {bodies : List (List Byte)} (h : ∀ b ∈ bodies, b.length ≤ 255) :
    (bodies.map fun b => (BitVec.ofNat 8 b.length).toNat).sum = bodies.flatten.length := by
  rw [List.length_flatten, List.map_congr_left fun b hb => toNat_declaredLength (h b hb)]

/-- Whole fragments of one action code: their bodies in a row, nothing broken, no mismatch. -/
theorem bundleFromParts_whole (hm : Header) (s t c : Byte) (b : List Byte) (bs : List (List Byte))
    (h : ∀ x ∈ b :: bs, x.length ≤ 255) :
    bundleFromParts hm (wholeFragment (messageFrame s t c b)) ((bs.map (messageFrame s t c)).map wholeFragment) =
      { body := (b :: bs).flatten, bodylen := (b :: bs).flatten.length, rcvlen := (b :: bs).flatten.length,
        hdr := hm, code := c, anyBroken := false, mismatch := false } := by
  have all : wholeFragment (messageFrame s t c b) :: (bs.map (messageFrame s t c)).map wholeFragment =
      (b :: bs).map fun x => wholeFragment (messageFrame s t c x) := by simp
  have whole : ∀ x ∈ b :: bs, ¬ x.length < (BitVec.ofNat 8 x.length).toNat := fun x hx => by
    rw [toNat_declaredLength (h x hx)]
    exact lt_irrefl _
  unfold bundleFromParts
  simp only [all, Bundle.mk.injEq]
  generalize b :: bs = bodies at *
  refine ⟨?body, ?bodylen, ?rcvlen, trivial, rfl, ?anyBroken, ?mismatch⟩
  case body => simp [List.flatMap_map]
  case bodylen => simpa [Function.comp_def] using sum_declaredLengths h
  case rcvlen => simp [Function.comp_def, List.length_flatten]
  case anyBroken => simpa using whole
  case mismatch => simp

/-! ## The obligation -/

/-- Settles O36: reading undoes the encoding frame by frame, and the fragments read are the payload's. -/
theorem bundleReassemblesToItsPayload : Obligations.BundleReassemblesToItsPayload := by
  intro s t c payload hlen
  have split_le : ∀ b ∈ bundleSplit payload, b.length ≤ 255 := fun _ => length_le_of_mem_bundleSplit
  have count := one_le_fragmentCount payload.length
  have count_le := (fragmentCount_le_iff (by decide : 1 ≤ 255) payload.length).2 hlen
  have digits_le := (length_formatCount_le (fragmentCount payload.length)).trans (by decide : 3 ≤ 255)
  have joined := flatten_bundleSplit payload
  have read : readFrames (fragmentCount payload.length + 1) (bundleEncode s t c payload) =
      some (messageFrame s t codeBundle (formatCount (fragmentCount payload.length)) ::
        (bundleSplit payload).map (messageFrame s t c)) := by
    rw [bundleEncode, readFrames_messageEncode_append s t _ digits_le, ← length_bundleSplit,
      readFrames_flatMap_messageEncode s t c _ split_le]
    rfl
  have parsed := parseCount_formatCount count count_le
  have size := length_bundleSplit payload
  generalize bundleSplit payload = parts at *
  cases parts with
  | nil =>
    rw [List.length_nil] at size
    omega
  | cons b bs =>
    refine ⟨_, _, _, _, read, ?_, ?_⟩
    · rw [parsed, ← size]
      simp
    · rw [bundleFromParts_whole _ s t c b bs split_le, joined]

end Sys2Proof.Machine
end

section
/-! The reading of one frame by the RX engine (43_engine_rx.md R241-R244, 40_codec.md R154).

The engine is followed in two parts. In the header each offered byte is taken and a gap changes nothing, so four bytes
lead to the start of the body whatever the gaps. In the body every cycle adds what it brings to `afterBody`: the bytes
taken, stored one after another, and the cycles passed. The frame is then classified in the state this leaves. -/

namespace Sys2Proof.Machine

/-! ## Storing a row of bytes -/

/-- The buffer after a row of bytes is stored from an offset on. -/
def storeBytes (m : Memory) (a : Nat) : List Byte → Memory
  | [] => m
  | b :: bs => storeBytes (memWrite m a b) (a + 1) bs

theorem storeBytes_append (m : Memory) (a : Nat) (bs cs : List Byte) :
    storeBytes m a (bs ++ cs) = storeBytes (storeBytes m a bs) (a + bs.length) cs := by
  induction bs generalizing m a with
  | nil => rfl
  | cons b bs ih =>
    rw [List.cons_append, storeBytes, storeBytes, ih, List.length_cons, Nat.add_right_comm, Nat.add_assoc]

/-- Storing a row inside the buffer keeps its form. -/
theorem storeBytes_wf {m : Memory} (h : m.wf) {a : Nat} {bs : List Byte} (ha : a + bs.length ≤ maxPayload) :
    (storeBytes m a bs).wf := by
  induction bs generalizing m a with
  | nil => exact h
  | cons b bs ih =>
    rw [List.length_cons] at ha
    exact ih (memWrite_wf h (by omega) b) (by omega)

/-- Reading after a row is stored: its bytes in their places, the old contents elsewhere. -/
theorem memRead_storeBytes {m : Memory} (h : m.Pairwise fun x y => x.1 < y.1) (a o : Nat) (bs : List Byte) :
    memRead (storeBytes m a bs) o = if a ≤ o ∧ o < a + bs.length then bs[o - a]? else memRead m o := by
  induction bs generalizing m a with
  | nil => rw [storeBytes, List.length_nil, if_neg (by omega)]
  | cons b bs ih =>
    rw [storeBytes, ih (memWrite_rising h a b), memRead_memWrite h, List.length_cons]
    by_cases hlow : o < a
    · rw [if_neg (by omega), if_neg (by omega), if_neg (by omega)]
    · by_cases hat : o = a
      · subst hat
        simp
      · have hk : o - a = o - (a + 1) + 1 := by omega
        rw [hk, List.getElem?_cons_succ, if_neg hat]
        exact if_congr (by omega) rfl rfl

/-! ## Runs of the RX engine -/

theorem rxRun_append (xs ys : List Input) (s : State) : rxRun (xs ++ ys) s = andThen (rxRun xs s) (rxRun ys) := by
  induction xs generalizing s with
  | nil => rfl
  | cons x xs ih =>
    rw [List.cons_append, rxRun, rxRun]
    cases rxStep x s with
    | next t => exact ih t
    | fault _ => rfl
    | refused _ => rfl

/-- A run whose first part answers a state goes on from it. -/
theorem rxRun_append_next {xs : List Input} {s t : State} (h : rxRun xs s = .next t) (ys : List Input) :
    rxRun (xs ++ ys) s = rxRun ys t := by
  rw [rxRun_append, h, andThen_next]

/-- A cycle of inputs that offer a first byte and more: it offers that byte, or the channel is silent. -/
theorem delivers_cons {b : Byte} {bs : List Byte} {inp : Input} {inps : List Input}
    (h : Delivers (b :: bs) (inp :: inps)) :
    inp.rxFault = false ∧
      ((inp.rxValid = true ∧ inp.rxData = b ∧ Delivers bs inps) ∨
        (inp.rxValid = false ∧ Delivers (b :: bs) inps)) := by
  obtain ⟨hf, hd⟩ := h
  cases hv : inp.rxValid with
  | true => exact ⟨hf, .inl ⟨rfl, by simpa [hv] using hd⟩⟩
  | false => exact ⟨hf, .inr ⟨rfl, by simpa [hv] using hd⟩⟩

theorem delivers_nil {inps : List Input} : Delivers [] inps ↔ inps = [] := by
  cases inps with
  | nil => simp [Delivers]
  | cons _ _ => simp [Delivers]

/-! ## The header -/

/-- Where a header is read, the engine's step is the header cycle. -/
theorem rxStep_inHeader {s : State} (h : s.rx.rs.inHeader = true) (inp : Input) :
    rxStep inp s = .next (headerCycle inp s) := by
  unfold rxStep
  cases hr : s.rx.rs <;> simp_all [RxState.inHeader]

/-- The engine waits for the next header byte and takes it, whatever the gap before it (R241). -/
theorem rxRun_takeHeaderByte {s : State} (hs : s.rx.rs.inHeader = true) {b : Byte} {bs : List Byte} {inps : List Input}
    (h : Delivers (b :: bs) inps) :
    ∃ rest, Delivers bs rest ∧ rxRun inps s = rxRun rest (takeHeaderByte b s) := by
  induction inps with
  | nil => exact h.elim
  | cons x xs ih =>
    obtain ⟨hf, hd⟩ := delivers_cons h
    rw [rxRun, rxStep_inHeader hs, andThen_next]
    rcases hd with ⟨hv, hb, hd⟩ | ⟨hv, hd⟩
    case inl =>
      refine ⟨xs, hd, ?_⟩
      simp [headerCycle, hf, hv, hb]
    case inr =>
      obtain ⟨rest, hr, e⟩ := ih hd
      refine ⟨rest, hr, ?_⟩
      simpa [headerCycle, hf, hv] using e

/-- The state in which the body of a frame with the header `h`, read from `s`, starts (R242). -/
def bodyStart (s : State) (h : Header) : State :=
  { s with rx := { s.rx with
      rs := if s.rx.rs = .hdr then .body else .fbody
      hb0 := h.len, hb1 := h.sender, hb2 := h.target, hcnt := 0, cur := h, bcnt := 0, e := 0
      tmo := sampledTimeout s h.len.toNat } }

/-- The four bytes of a header, with any gaps, start its body (R241, R242). -/
theorem rxRun_header {s : State} (hs : s.rx.rs.inHeader = true) (hc : s.rx.hcnt = 0) {h : Header} {inps : List Input}
    (hd : Delivers (headerEncode h) inps) : rxRun inps s = .next (bodyStart s h) := by
  obtain ⟨i1, d1, e1⟩ := rxRun_takeHeaderByte hs hd
  have t1 : takeHeaderByte h.len s = { s with rx := { s.rx with hb0 := h.len, hcnt := 1 } } := by
    simp [takeHeaderByte, hc]
  obtain ⟨i2, d2, e2⟩ := rxRun_takeHeaderByte (s := takeHeaderByte h.len s) (by rw [t1]; exact hs) d1
  obtain ⟨i3, d3, e3⟩ := rxRun_takeHeaderByte (s := takeHeaderByte h.sender (takeHeaderByte h.len s))
    (by rw [t1]; exact hs) d2
  obtain ⟨i4, d4, e4⟩ := rxRun_takeHeaderByte
    (s := takeHeaderByte h.target (takeHeaderByte h.sender (takeHeaderByte h.len s))) (by rw [t1]; exact hs) d3
  rw [e1, e2, e3, e4, delivers_nil.1 d4, t1]
  rfl

@[simp] theorem bodyStart_inBody (s : State) (h : Header) : (bodyStart s h).rx.rs.inBody = true := by
  unfold bodyStart
  split <;> rfl

/-- The body goes where `nextBase` says. -/
@[simp] theorem bodyBase_bodyStart {s : State} (hs : s.rx.rs.inHeader = true) (h : Header) :
    bodyBase (bodyStart s h) = nextBase s := by
  unfold bodyBase nextBase bodyStart
  cases hr : s.rx.rs <;> simp_all [RxState.inHeader]

/-! ## The body -/

/-- `s` after `n` reading cycles of its body that brought the bytes `got` (R243). -/
def afterBody (s : State) (got : List Byte) (n : Nat) : State :=
  { s with
    rxbuf := storeBytes s.rxbuf (bodyBase s + s.rx.bcnt) got
    rx := { s.rx with bcnt := s.rx.bcnt + got.length, e := s.rx.e + n } }

@[simp] theorem bodyBase_afterBody (s : State) (got : List Byte) (n : Nat) :
    bodyBase (afterBody s got n) = bodyBase s := rfl

/-- The cycles of a body in two parts. -/
theorem afterBody_afterBody (s : State) (bs cs : List Byte) (n k : Nat) :
    afterBody (afterBody s bs n) cs k = afterBody s (bs ++ cs) (n + k) := by
  rw [afterBody, bodyBase_afterBody]
  simp [afterBody, storeBytes_append, Nat.add_assoc]

/-- The body read goes on exactly while bytes are missing and the timeout has not passed. -/
theorem bodyOver_eq_false {s : State} :
    bodyOver s = false ↔ s.rx.bcnt ≠ s.rx.cur.len.toNat ∧ ∀ q, s.rx.tmo = some q → s.rx.e ≤ q := by
  unfold bodyOver timedOut
  cases s.rx.tmo <;> simp

/-- Where a body is read and not over, the engine's step is the reading cycle. -/
theorem rxStep_inBody {s : State} (h : s.rx.rs.inBody = true) (ho : bodyOver s = false) (inp : Input) :
    rxStep inp s = readBody inp s := by
  unfold rxStep bodyCycle
  cases hr : s.rx.rs <;> simp_all [RxState.inBody]

/-- A cycle without a byte only passes (R243). -/
theorem rxStep_gap {s : State} (h : s.rx.rs.inBody = true) (ho : bodyOver s = false) {inp : Input}
    (hf : inp.rxFault = false) (hv : inp.rxValid = false) : rxStep inp s = .next (afterBody s [] 1) := by
  rw [rxStep_inBody h ho, readBody_eq_next]
  exact .inr (.inr ⟨hf, hv, rfl⟩)

/-- An offered byte is stored behind those before it (R243). -/
theorem rxStep_byte {s : State} (h : s.rx.rs.inBody = true) (ho : bodyOver s = false) {inp : Input}
    (hf : inp.rxFault = false) (hv : inp.rxValid = true) (hb : bodyBase s + s.rx.bcnt < maxPayload) :
    rxStep inp s = .next (afterBody s [inp.rxData] 1) := by
  rw [rxStep_inBody h ho, readBody_eq_next]
  exact .inr (.inl ⟨hf, hv, hb, rfl⟩)

/-- Silent cycles within the timeout, while bytes are missing, only pass. -/
theorem rxRun_gaps {s : State} (hs : s.rx.rs.inBody = true) {gaps : List Input}
    (hg : ∀ inp ∈ gaps, inp.rxValid = false ∧ inp.rxFault = false) (hm : s.rx.bcnt = s.rx.cur.len.toNat → gaps = [])
    (ht : ∀ q, s.rx.tmo = some q → s.rx.e + gaps.length ≤ q + 1) :
    rxRun gaps s = .next (afterBody s [] gaps.length) := by
  induction gaps generalizing s with
  | nil => rfl
  | cons inp rest ih =>
    obtain ⟨⟨hv, hf⟩, hrest⟩ := List.forall_mem_cons.1 hg
    have missing : s.rx.bcnt ≠ s.rx.cur.len.toNat := fun e => List.cons_ne_nil _ _ (hm e)
    have reading : bodyOver s = false :=
      bodyOver_eq_false.2 ⟨missing, fun q hq => by have := ht q hq; rw [List.length_cons] at this; omega⟩
    rw [rxRun, rxStep_gap hs reading hf hv, andThen_next, ih (s := afterBody s [] 1) hs hrest fun e => absurd e missing,
      afterBody_afterBody, List.length_cons, Nat.add_comm]
    · rfl
    · intro q hq
      have := ht q hq
      simp only [afterBody, List.length_cons] at this ⊢
      omega

/-- Bytes of a body that fits RXBUF, offered in order within the timeout, are all taken, whatever the gaps. -/
theorem rxRun_bytes {s : State} (hs : s.rx.rs.inBody = true) {bs : List Byte} {inps : List Input}
    (hd : Delivers bs inps) (hl : s.rx.bcnt + bs.length ≤ s.rx.cur.len.toNat)
    (hfit : bodyBase s + s.rx.cur.len.toNat ≤ maxPayload)
    (ht : ∀ q, s.rx.tmo = some q → s.rx.e + inps.length ≤ q + 1) :
    rxRun inps s = .next (afterBody s bs inps.length) := by
  induction inps generalizing s bs with
  | nil =>
    cases bs with
    | nil => rfl
    | cons b bs => exact hd.elim
  | cons x xs ih =>
    cases bs with
    | nil => exact hd.elim
    | cons b bs =>
      rw [List.length_cons] at hl ht
      have reading : bodyOver s = false :=
        bodyOver_eq_false.2 ⟨by omega, fun q hq => by have := ht q hq; omega⟩
      have step (cs ds : List Byte) (hx : rxStep x s = .next (afterBody s cs 1)) (hds : Delivers ds xs)
          (hcs : cs ++ ds = b :: bs) : rxRun (x :: xs) s = .next (afterBody s (b :: bs) (xs.length + 1)) := by
        have hlen : cs.length + ds.length = bs.length + 1 := by rw [← List.length_append, hcs, List.length_cons]
        rw [rxRun, hx, andThen_next, ih (s := afterBody s cs 1) hs hds, afterBody_afterBody, hcs, Nat.add_comm]
        · simp only [afterBody]
          omega
        · exact hfit
        · intro q hq
          have := ht q hq
          simp only [afterBody]
          omega
      obtain ⟨hf, hx⟩ := delivers_cons hd
      rcases hx with ⟨hv, rfl, hx⟩ | ⟨hv, hx⟩
      · exact step [x.rxData] bs (rxStep_byte hs reading hf hv (by omega)) hx rfl
      · exact step [] (b :: bs) (rxStep_gap hs reading hf hv) hx rfl

/-! ## The frame read -/

/-- `s` after the reading of a frame: its header, and `n` body cycles that brought `got`. -/
def frameRead (s : State) (h : Header) (got : List Byte) (n : Nat) : State := afterBody (bodyStart s h) got n

/-- R154: four header bytes, then body bytes and silence within the timeout. -/
theorem rxRun_frame {s : State} {h : Header} {got : List Byte} {hins bins gaps : List Input}
    (hs : s.rx.rs.inHeader = true) (hc : s.rx.hcnt = 0) (hl : got.length ≤ h.len.toNat)
    (hfit : nextBase s + h.len.toNat ≤ maxPayload) (hh : Delivers (headerEncode h) hins) (hb : Delivers got bins)
    (hg : ∀ inp ∈ gaps, inp.rxValid = false ∧ inp.rxFault = false) (hw : got.length = h.len.toNat → gaps = [])
    (ht : ∀ q, sampledTimeout s h.len.toNat = some q → bins.length + gaps.length ≤ q + 1) :
    rxRun (hins ++ bins ++ gaps) s = .next (frameRead s h got (bins.length + gaps.length)) := by
  have body : rxRun bins (bodyStart s h) = .next (afterBody (bodyStart s h) got bins.length) := by
    refine rxRun_bytes (bodyStart_inBody s h) hb ?_ ?_ fun q hq => ?_
    · simpa [bodyStart] using hl
    · rw [bodyBase_bodyStart hs]
      exact hfit
    · have := ht q hq
      simp only [bodyStart]
      omega
  rw [List.append_assoc, rxRun_append_next (rxRun_header hs hc hh), rxRun_append_next body,
    rxRun_gaps (s := afterBody (bodyStart s h) got bins.length) (bodyStart_inBody s h) hg,
    afterBody_afterBody, List.append_nil]
  · rfl
  · intro e
    exact hw (by simpa [afterBody, bodyStart] using e)
  · intro q hq
    have := ht q hq
    simp only [afterBody, bodyStart]
    omega

/-- The frame read, field by field. -/
theorem frameRead_eq (s : State) (h : Header) (got : List Byte) (n : Nat) :
    frameRead s h got n = { s with
      rxbuf := (frameRead s h got n).rxbuf
      rx := { s.rx with
        rs := if s.rx.rs = .hdr then .body else .fbody
        hb0 := h.len, hb1 := h.sender, hb2 := h.target, hcnt := 0
        cur := h, bcnt := got.length, e := n, tmo := sampledTimeout s h.len.toNat } } := by
  simp [frameRead, afterBody, bodyStart]

theorem bodyBase_frameRead {s : State} (hs : s.rx.rs.inHeader = true) (h : Header) (got : List Byte) (n : Nat) :
    bodyBase (frameRead s h got n) = nextBase s := bodyBase_bodyStart hs h

theorem frameRead_rxbuf {s : State} (hs : s.rx.rs.inHeader = true) (h : Header) (got : List Byte) (n : Nat) :
    (frameRead s h got n).rxbuf = storeBytes s.rxbuf (nextBase s) got := by
  rw [frameRead, afterBody, bodyBase_bodyStart hs]
  rfl

@[simp] theorem frameRead_bcnt (s : State) (h : Header) (got : List Byte) (n : Nat) :
    (frameRead s h got n).rx.bcnt = got.length := Nat.zero_add _

@[simp] theorem frameRead_cur (s : State) (h : Header) (got : List Byte) (n : Nat) :
    (frameRead s h got n).rx.cur = h := rfl

/-- Within the timeout, the body read is over where the body is whole or the timeout has just passed. -/
theorem bodyOver_frameRead {s : State} {h : Header} {got : List Byte} {n : Nat}
    (ht : ∀ q, sampledTimeout s h.len.toNat = some q → n ≤ q + 1) :
    bodyOver (frameRead s h got n) = true ↔
      got.length = h.len.toNat ∨ ∃ q, sampledTimeout s h.len.toNat = some q ∧ n = q + 1 := by
  rw [frameRead_eq]
  unfold bodyOver timedOut
  cases hq : sampledTimeout s h.len.toNat with
  | none => simp
  | some q =>
    have := ht q hq
    simp only [Bool.or_eq_true, beq_iff_eq, decide_eq_true_eq, Option.some.injEq, exists_eq_left']
    omega

/-- The frame read is broken exactly where bytes are missing. -/
theorem isBroken_frameRead {s : State} {h : Header} {got : List Byte} (hl : got.length ≤ h.len.toNat) (n : Nat) :
    isBroken (frameRead s h got n) = !decide (got.length = h.len.toNat) := by
  rw [isBroken, frameRead_bcnt, frameRead_cur, ← decide_not, decide_eq_decide]
  omega

theorem rxByte_of_memRead {s : State} {o : Nat} {b : Byte} (h : memRead s.rxbuf o = some b) : s.rxByte o = b := by
  simp [State.rxByte, h]

/-- The reported body of a classified frame: the bytes that came, and the filler for the missing ones (R145, R244). -/
theorem reportedBody_frameRead {s t : State} {h : Header} {got : List Byte} {n : Nat} (hs : s.rx.rs.inHeader = true)
    (hw : s.rxbuf.wf) (hl : got.length ≤ h.len.toNat) (hfit : nextBase s + h.len.toNat ≤ maxPayload)
    (hc : classify (frameRead s h got n) = .next t) :
    (List.range h.len.toNat).map (fun k => t.rxByte (nextBase s + k)) =
      got ++ List.replicate (h.len.toNat - got.length) s.params.fill := by
  have buffer : (frameRead s h got n).rxbuf.wf := by
    rw [frameRead_rxbuf hs]
    exact storeBytes_wf hw (by omega)
  have padded := classify_padded hc buffer
  rw [PaddedBody, bodyBase_frameRead hs, frameRead_bcnt, frameRead_cur, frameRead_rxbuf hs] at padded
  refine List.ext_getElem ?_ fun k hk _ => ?_
  · simp only [List.length_map, List.length_range, List.length_append, List.length_replicate]
    omega
  have hk : k < h.len.toNat := by simpa using hk
  rw [List.getElem_map, List.getElem_range, List.getElem_append]
  apply rxByte_of_memRead
  rw [padded]
  by_cases hcame : k < got.length
  · rw [dif_pos hcame, if_neg (by omega), memRead_storeBytes hw.1, if_pos (by omega), Nat.add_sub_cancel_left,
      List.getElem?_eq_getElem hcame]
  · rw [dif_neg hcame, if_pos (by omega), List.getElem_replicate]
    rfl

/-! ## The obligation -/

/-- Settles O42: the run ends in `frameRead`, and that state is classified. -/
theorem messageIsReceivedWhole : Obligations.MessageIsReceivedWhole := by
  intro s L sender target code got hins bins gaps hs hc hw hL hl hfit hh hb hg hgaps ht
  obtain ⟨len, rfl⟩ : ∃ len : Byte, L = len.toNat := ⟨BitVec.ofNat 8 L, (toNat_declaredLength hL).symm⟩
  simp only [BitVec.ofNat_toNat, BitVec.setWidth_eq] at *
  generalize hn : bins.length + gaps.length = n at *
  have whole : got.length = len.toNat → isBroken (frameRead s ⟨len, sender, target, code⟩ got n) = false := fun e => by
    rw [isBroken_frameRead hl]
    simpa using e
  obtain ⟨t', ht'⟩ := classify_next (s := frameRead s ⟨len, sender, target, code⟩ got n)
    (by rw [bodyBase_frameRead hs]; exact hfit)
  refine ⟨frameRead s ⟨len, sender, target, code⟩ got n, ?run, frameRead_eq s _ got n, ?stored,
    bodyOver_frameRead ht, ?whole, ?kind, rfl, t', ht', ?counted, reportedBody_frameRead hs hw hl hfit ht'⟩
  case run =>
    rw [← hn]
    exact rxRun_frame hs hc hl hfit hh hb hg hgaps (hn ▸ ht)
  case stored =>
    intro o
    rw [frameRead_rxbuf hs, memRead_storeBytes hw.1]
  case whole =>
    intro e
    rw [ht', classify_whole ht' (whole e)]
  case kind =>
    simp only [topFrame, isBroken_frameRead (h := ⟨len, sender, target, code⟩) hl]
    by_cases e : got.length = len.toNat <;> simp [e]
  case counted =>
    rw [classify_broken ht', brokenInc, isBroken_frameRead hl]
    by_cases e : got.length = len.toNat
    · rw [if_pos e]
      simp [e, frameRead, afterBody, bodyStart]
    · rw [if_neg e]
      simp [e, frameRead, afterBody, bodyStart]

end Sys2Proof.Machine
end

section
/-! The rate-limited writer's time: a pacing wait, and a whole send (41_writer.md R184, R185, R188).

A pacing wait is followed by its counter. A whole send is followed by `cyclesLeft`, which counts the bytes still to be
transferred, the cycles left of the wait in progress and the waits of the chunks not yet ended: every cycle with an
accepting channel takes one from it, and the cycle that finds it at one completes the send. -/

namespace Sys2Proof.Machine

/-! ## Runs of the TX engine -/

theorem txRun_append (xs ys : List Input) (s : State) : txRun (xs ++ ys) s = andThen (txRun xs s) (txRun ys) := by
  induction xs generalizing s with
  | nil => rfl
  | cons x xs ih =>
    rw [List.cons_append, txRun, txRun]
    cases txCycle x s s with
    | next t => exact ih t
    | fault _ => rfl
    | refused _ => rfl

/-- A run whose cycles but the last answer a state ends with one cycle from it. -/
theorem txRun_concat_next {xs : List Input} {s t : State} (h : txRun xs s = .next t) (x : Input) :
    txRun (xs ++ [x]) s = txCycle x t t := by
  rw [txRun_append, h, andThen_next, txRun]
  cases txCycle x t t <;> rfl

/-! ## The PACE cycle -/

/-- A PACE cycle samples no input. -/
theorem txCycle_pace {s : State} (h : s.tx.ts = .pace) (inp : Input) : txCycle inp s s = .next (paceCycle s s) := by
  rw [txCycle, h]

/-- `s` with `n` cycles left of the pacing wait. -/
def State.withWait (s : State) (n : Nat) : State := { s with tx := { s.tx with pr := n } }

@[simp] theorem withWait_pr (s : State) (n : Nat) : (s.withWait n).tx.pr = n := rfl

@[simp] theorem withWait_withWait (s : State) (n k : Nat) : (s.withWait n).withWait k = s.withWait k := rfl

theorem paceCycle_counts {s : State} (h : s.tx.pr ≠ 1) : paceCycle s s = s.withWait (s.tx.pr - 1) := if_neg h

theorem paceCycle_nextChunk {s : State} (h : s.tx.pr = 1) (hp : s.tx.pos ≠ s.tx.total) :
    paceCycle s s = { s with tx := { s.tx with ts := .send } } := by
  rw [paceCycle, if_pos h, if_neg hp]

theorem paceCycle_completes {s : State} (h : s.tx.pr = 1) (hp : s.tx.pos = s.tx.total) :
    paceCycle s s = endSend s s .ok s.tx.total := by
  rw [paceCycle, if_pos h, if_pos hp]

/-- The end of a send at an existing port. -/
theorem endSend_eq {s : State} {P : Port} (h : s.ports[s.tx.gp]? = some P) (e : ErrCode) (r : Nat) :
    endSend s s e r = { s with tx := { s.tx with ts := .idle }, ports := s.ports.set s.tx.gp (P.sendEnds e r) } :=
  updPort_eq_withPort (s := { s with tx := { s.tx with ts := .idle } }) h _

/-- Before its last cycle a pacing wait only counts. -/
theorem txRun_pace_counts {s : State} {inps : List Input} (hs : s.tx.ts = .pace) (hl : inps.length < s.tx.pr) :
    txRun inps s = .next (s.withWait (s.tx.pr - inps.length)) := by
  induction inps generalizing s with
  | nil => rfl
  | cons x xs ih =>
    rw [List.length_cons] at hl ⊢
    have rest := ih (s := s.withWait (s.tx.pr - 1)) hs (by rw [withWait_pr]; omega)
    rw [txRun, txCycle_pace hs, andThen_next, paceCycle_counts (by omega), rest, withWait_withWait, withWait_pr,
      Nat.sub_sub, Nat.add_comm 1]

/-- A whole pacing wait ends with the PACE cycle whose counter is one. -/
theorem txRun_pace_ends {s : State} {inps : List Input} (hs : s.tx.ts = .pace) (h1 : 1 ≤ s.tx.pr)
    (hl : inps.length = s.tx.pr) :
    txRun inps s = .next (paceCycle (s.withWait 1) (s.withWait 1)) := by
  obtain rfl | ⟨init, x, rfl⟩ := List.eq_nil_or_concat' inps
  · rw [List.length_nil] at hl
    omega
  · rw [List.length_append, List.length_singleton] at hl
    have counted := txRun_pace_counts (inps := init) hs (by omega)
    rw [show s.tx.pr - init.length = 1 by omega] at counted
    rw [txRun_concat_next counted, txCycle_pace (s := s.withWait 1) hs]

/-- Settles O47: the wait counts down to one, and the cycle that finds one there ends it. -/
theorem pacingLastsItsCount : Obligations.PacingLastsItsCount := by
  intro s P inps hs hP
  refine ⟨?silent, txRun_pace_counts hs, fun h1 hl hp => ?next, fun h1 hl hp => ?done⟩
  case silent => simp [txOffer, hs]
  case next =>
    rw [txRun_pace_ends hs h1 hl, paceCycle_nextChunk (withWait_pr s 1) hp]
    rfl
  case done =>
    rw [txRun_pace_ends hs h1 hl, paceCycle_completes (withWait_pr s 1) hp, endSend_eq (s := s.withWait 1) hP]
    rfl

/-! ## The waits of the chunks -/

/-- The pacing waits of `r` bytes in chunks of `csize`, the first byte at the start of a chunk (R181, R183). -/
def chunkWaits (clk bps csize r : Nat) : Nat :=
  r / csize * paceCycles clk csize bps + if r % csize = 0 then 0 else paceCycles clk (r % csize) bps

@[simp] theorem chunkWaits_zero (clk bps csize : Nat) : chunkWaits clk bps csize 0 = 0 := by simp [chunkWaits]

/-- A full chunk adds its wait. -/
theorem chunkWaits_add_csize {csize : Nat} (h : 1 ≤ csize) (clk bps r : Nat) :
    chunkWaits clk bps csize (r + csize) = paceCycles clk csize bps + chunkWaits clk bps csize r := by
  rw [chunkWaits, Nat.add_div_right r h, Nat.add_mod_right, Nat.succ_mul, chunkWaits]
  omega

/-- A last chunk that is not full has one wait. -/
theorem chunkWaits_of_lt {csize r : Nat} (h : r < csize) (h1 : 1 ≤ r) (clk bps : Nat) :
    chunkWaits clk bps csize r = paceCycles clk r bps := by
  rw [chunkWaits, Nat.div_eq_of_lt h, Nat.mod_eq_of_lt h, if_neg (by omega), Nat.zero_mul, Nat.zero_add]

/-- The byte after the `c` first ones of a chunk, with `r` bytes left of the stream, ends the chunk by its size or as
the last one of the stream: the wait of `c + 1` bytes is split off. -/
theorem chunkWaits_endOfChunk {csize c r : Nat} (hc : c < csize) (hr : 1 ≤ r) (hend : c + 1 = csize ∨ r = 1)
    (clk bps : Nat) :
    chunkWaits clk bps csize (r + c) = paceCycles clk (c + 1) bps + chunkWaits clk bps csize (r - 1) := by
  by_cases hfull : c + 1 = csize
  · rw [hfull, ← chunkWaits_add_csize (by omega)]
    congr 1
    omega
  · obtain rfl := hend.resolve_left hfull
    rw [Nat.add_comm, chunkWaits_of_lt (by omega) (by omega), Nat.sub_self, chunkWaits_zero]
    rfl

/-! ## The cycles left of a send -/

/-- A send holds the lock, with the engine's counters in the ranges of 10_state.md R44. -/
structure SendUnderway (s : State) : Prop where
  csize : 1 ≤ s.tx.csize
  clock : 1 ≤ s.params.clkHz
  rate : s.bps ≠ 0
  held : s.tx.ts ≠ .idle
  send : s.tx.ts = .send → s.tx.pos < s.tx.total ∧ s.tx.cpos < s.tx.csize
  pace : s.tx.ts = .pace → s.tx.pos ≤ s.tx.total ∧ s.tx.cpos = 0 ∧ 1 ≤ s.tx.pr

/-- The cycles left of the pacing wait in progress, if one is. -/
def waitLeft (tx : TxEngine) : Nat := if tx.ts = .pace then tx.pr else 0

/-- The cycles a send still holds the lock for, if every byte is accepted. The `cpos` bytes of the current chunk count
for its wait. -/
def cyclesLeft (s : State) : Nat :=
  waitLeft s.tx + (s.tx.total - s.tx.pos) +
    chunkWaits s.params.clkHz s.bps.toNat s.tx.csize (s.tx.total - s.tx.pos + s.tx.cpos)

theorem cyclesLeft_pos {s : State} (h : SendUnderway s) : 1 ≤ cyclesLeft s := by
  unfold cyclesLeft waitLeft
  cases hs : s.tx.ts with
  | idle => exact absurd hs h.held
  | send =>
    have := h.send hs
    omega
  | pace =>
    have := h.pace hs
    rw [if_pos rfl]
    omega

/-- `t` is `n` cycles further in the same send as `s`. -/
structure SendProgress (s : State) (n : Nat) (t : State) : Prop where
  underway : SendUnderway t
  elapsed : cyclesLeft t + n = cyclesLeft s
  ports : t.ports = s.ports
  port : t.tx.gp = s.tx.gp
  total : t.tx.total = s.tx.total

theorem SendProgress.refl {s : State} (h : SendUnderway s) : SendProgress s 0 s := ⟨h, rfl, rfl, rfl, rfl⟩

theorem SendProgress.trans {s t u : State} {m n : Nat} (h : SendProgress s m t) (k : SendProgress t n u) :
    SendProgress s (n + m) u :=
  ⟨k.underway, by rw [← Nat.add_assoc, k.elapsed, h.elapsed], k.ports.trans h.ports, k.port.trans h.port,
    k.total.trans h.total⟩

/-- A transfer takes one cycle from those left, also where it ends a chunk and starts its wait (R182, R183). -/
theorem txAdvance_progress {s : State} (h : SendUnderway s) (hs : s.tx.ts = .send) :
    SendProgress s 1 { s with tx := txAdvance s } := by
  obtain ⟨hpos, hcpos⟩ := h.send hs
  have wait : 1 ≤ paceCycles s.params.clkHz (s.tx.cpos + 1) s.bps.toNat :=
    paceCycles_pos h.clock (by omega) fun e => h.rate (BitVec.eq_of_toNat_eq e)
  unfold txAdvance
  by_cases hend : s.tx.cpos + 1 = s.tx.csize ∨ s.tx.pos + 1 = s.tx.total
  · rw [if_pos hend]
    refine ⟨⟨h.csize, h.clock, h.rate, nofun, nofun, fun _ => ⟨hpos, rfl, wait⟩⟩, ?_, rfl, rfl, rfl⟩
    simp only [cyclesLeft, waitLeft, hs, reduceCtorEq, if_true, if_false,
      chunkWaits_endOfChunk hcpos (show 1 ≤ s.tx.total - s.tx.pos by omega) (by omega), Nat.sub_sub, Nat.add_zero]
    omega
  · rw [if_neg hend]
    have inRange : s.tx.pos + 1 < s.tx.total ∧ s.tx.cpos + 1 < s.tx.csize := by omega
    refine ⟨⟨h.csize, h.clock, h.rate, h.held, fun _ => inRange, fun e => absurd (hs.symm.trans e) nofun⟩, ?_,
      rfl, rfl, rfl⟩
    have sameChunk : s.tx.total - (s.tx.pos + 1) + (s.tx.cpos + 1) = s.tx.total - s.tx.pos + s.tx.cpos := by omega
    simp only [cyclesLeft, waitLeft, hs, reduceCtorEq, if_false, sameChunk]
    omega

/-- A PACE cycle takes one cycle from those left, unless it is the last of the send (R184). -/
theorem paceCycle_progress {s : State} (h : SendUnderway s) (hs : s.tx.ts = .pace) (hl : cyclesLeft s ≠ 1) :
    SendProgress s 1 (paceCycle s s) := by
  obtain ⟨hpos, hcpos, hpr⟩ := h.pace hs
  by_cases h1 : s.tx.pr = 1
  · have hmore : s.tx.pos ≠ s.tx.total := fun e => hl (by simp [cyclesLeft, waitLeft, hs, h1, e, hcpos])
    rw [paceCycle_nextChunk h1 hmore]
    refine ⟨⟨h.csize, h.clock, h.rate, nofun, fun _ => ⟨Nat.lt_of_le_of_ne hpos hmore, ?_⟩, nofun⟩, ?_, rfl, rfl, rfl⟩
    · exact hcpos.trans_lt h.csize
    · simp only [cyclesLeft, waitLeft, hs, h1, reduceCtorEq, if_true, if_false]
      omega
  · rw [paceCycle_counts h1]
    refine ⟨⟨h.csize, h.clock, h.rate, h.held, fun e => absurd (hs.symm.trans e) nofun,
      fun _ => ⟨hpos, hcpos, show 1 ≤ s.tx.pr - 1 by omega⟩⟩, ?_, rfl, rfl, rfl⟩
    simp only [cyclesLeft, waitLeft, State.withWait, hs, if_true]
    omega

/-! ## A send with an accepting channel -/

/-- A SEND cycle in which the channel accepts transfers its byte. -/
theorem txCycle_accepts {s : State} {inp : Input} (h : SendUnderway s) (hs : s.tx.ts = .send)
    (hi : inp.txReady = true ∧ inp.txFault = false) : txCycle inp s s = .next { s with tx := txAdvance s } := by
  rw [txCycle, hs]
  exact sendCycle_eq_next.2 ⟨(h.send hs).1, .inr (.inl ⟨hi.2, hi.1, rfl⟩)⟩

/-- Every cycle but the last goes one cycle on. -/
theorem txCycle_progress {s : State} {inp : Input} (h : SendUnderway s) (hi : inp.txReady = true ∧ inp.txFault = false)
    (hl : cyclesLeft s ≠ 1) : ∃ t, txCycle inp s s = .next t ∧ SendProgress s 1 t := by
  cases hs : s.tx.ts with
  | idle => exact absurd hs h.held
  | send => exact ⟨_, txCycle_accepts h hs hi, txAdvance_progress h hs⟩
  | pace => exact ⟨_, txCycle_pace hs inp, paceCycle_progress h hs hl⟩

/-- The last cycle is one of PACE: a SEND cycle leaves a state in which the send is still under way. -/
theorem txCycle_completes {s : State} (h : SendUnderway s) (hl : cyclesLeft s = 1) (inp : Input) :
    txCycle inp s s = .next (endSend s s .ok s.tx.total) := by
  cases hs : s.tx.ts with
  | idle => exact absurd hs h.held
  | send =>
    have progress := txAdvance_progress h hs
    have := progress.elapsed
    have := cyclesLeft_pos progress.underway
    omega
  | pace =>
    obtain ⟨hpos, _, hpr⟩ := h.pace hs
    simp only [cyclesLeft, waitLeft, hs, if_true] at hl
    rw [txCycle_pace hs, paceCycle_completes (by omega) (by omega)]

/-- For fewer cycles than are left, every cycle of a run goes one on. -/
theorem txRun_progress {s : State} {inps : List Input} (h : SendUnderway s)
    (hi : ∀ inp ∈ inps, inp.txReady = true ∧ inp.txFault = false) (hl : inps.length < cyclesLeft s) :
    ∃ t, txRun inps s = .next t ∧ SendProgress s inps.length t := by
  induction inps generalizing s with
  | nil => exact ⟨s, rfl, .refl h⟩
  | cons x xs ih =>
    obtain ⟨hx, hxs⟩ := List.forall_mem_cons.1 hi
    rw [List.length_cons] at hl
    obtain ⟨u, hu, first⟩ := txCycle_progress h hx (by omega)
    have := first.elapsed
    obtain ⟨t, ht, rest⟩ := ih first.underway hxs (by omega)
    exact ⟨t, by rw [txRun, hu, andThen_next, ht], first.trans rest⟩

/-- After exactly the cycles left, the send has completed (R185). -/
theorem txRun_completes {s : State} {P : Port} {inps : List Input} (h : SendUnderway s)
    (hP : s.ports[s.tx.gp]? = some P) (hi : ∀ inp ∈ inps, inp.txReady = true ∧ inp.txFault = false)
    (hl : inps.length = cyclesLeft s) :
    ∃ t, txRun inps s = .next t ∧ t.tx.ts = .idle ∧ t.ports = s.ports.set s.tx.gp (P.sendEnds .ok s.tx.total) := by
  obtain rfl | ⟨init, x, rfl⟩ := List.eq_nil_or_concat' inps
  · exact absurd hl (Nat.ne_of_lt (cyclesLeft_pos h))
  · rw [List.length_append, List.length_singleton] at hl
    obtain ⟨u, hu, progress⟩ := txRun_progress h (fun y hy => hi y (List.mem_append_left _ hy)) (by omega)
    have := progress.elapsed
    have hQ : u.ports[u.tx.gp]? = some P := by rwa [progress.ports, progress.port]
    refine ⟨_, (txRun_concat_next hu x).trans (txCycle_completes progress.underway (by omega) x), ?_⟩
    rw [endSend_eq hQ, progress.ports, progress.port, progress.total]
    exact ⟨rfl, rfl⟩

/-- At its first byte a send has all its bytes and the waits of all its chunks before it. -/
theorem cyclesLeft_start {s : State} (hs : s.tx.ts = .send) (hpos : s.tx.pos = 0) (hcpos : s.tx.cpos = 0) :
    cyclesLeft s = s.tx.total + chunkWaits s.params.clkHz s.bps.toNat s.tx.csize s.tx.total := by
  simp [cyclesLeft, waitLeft, hs, hpos, hcpos]

/-- Settles O48: the two lengths are those of a run inside the cycles left at the first byte, and of all of them. -/
theorem sendTakesItsTransfersAndWaits : Obligations.SendTakesItsTransfersAndWaits := by
  intro s P inps hs hpos hcpos hcsize htotal hclk hbps hP hi
  have underway : SendUnderway s :=
    ⟨hcsize, hclk, hbps, by simp [hs], fun _ => ⟨by omega, by omega⟩, by simp [hs]⟩
  rw [Nat.add_assoc, ← chunkWaits, ← cyclesLeft_start hs hpos hcpos]
  refine ⟨fun hl => ?_, fun hl => txRun_completes underway hP hi hl⟩
  obtain ⟨t, ht, progress⟩ := txRun_progress underway hi hl
  exact ⟨t, ht, progress.underway.held, progress.ports⟩

end Sys2Proof.Machine
end

section
/-! BIND, UNBIND and ISUSED at the slot table, the slots no command reaches, and the acknowledgement of a dispatch
(42_dispatch.md R200-R203, R211, R212).

The slot table changes only by a reset or by the command of a PCMD write, and a command sets at most one entry, of a
code 32 .. 254. So the reserved entries stay. -/

namespace Sys2Proof.Machine

/-! ## Codes -/

/-- The codes BIND and UNBIND take (30_encoding.md R114). -/
theorem userCode_iff {c : Nat} : userCode c = true ↔ 32 ≤ c ∧ c ≤ 254 := by simp [userCode, userLo, userHi]

theorem userCode_eq_false_iff {c : Nat} : userCode c = false ↔ c < 32 ∨ c > 254 := by
  rw [← Bool.not_eq_true, userCode_iff]
  omega

/-- The codes ISUSED takes (30_encoding.md R114). -/
theorem hasSlot_iff {c : Nat} : hasSlot c = true ↔ c ≤ 254 := by simp [hasSlot, userHi]

/-! ## Completions -/

theorem complete_eq_withPort {s : State} {p : Nat} {P : Port} (h : s.ports[p]? = some P) (e : ErrCode) (r : Nat) :
    s.complete p e r = s.withPort p (completedPort P e (BitVec.ofNat 32 r)) :=
  updPort_eq_withPort h _

theorem failCommand_eq_withPort {s : State} {p : Nat} {P : Port} (h : s.ports[p]? = some P) (e : ErrCode) :
    s.failCommand p e = s.withPort p (completedPort P e 0) :=
  complete_eq_withPort h e 0

/-- A command that sets a slot and completes. -/
theorem setSlot_complete_eq {s : State} {p : Nat} {P : Port} (h : s.ports[p]? = some P) (c : Nat) (x : Slot)
    (e : ErrCode) (r : Nat) :
    (s.setSlot c x).complete p e r =
      { s.withPort p (completedPort P e (BitVec.ofNat 32 r)) with slots := s.slots.set c x } :=
  complete_eq_withPort (s := s.setSlot c x) h e r

/-! ## BIND, UNBIND, ISUSED on an idle port -/

theorem exec_bind_slotRange {s : State} {p : Nat} {P : Port} (h : s.ports[p]? = some P) (hp : P.pst = .idle)
    (hc : userCode P.codeArg = false) : exec (.bind p) s = .next (s.withPort p (completedPort P .slotRange 0)) := by
  change execBind p s = _
  rw [execBind, onIdlePort_idle h hp, hc, ← failCommand_eq_withPort h]
  rfl

theorem exec_unbind_slotRange {s : State} {p : Nat} {P : Port} (h : s.ports[p]? = some P) (hp : P.pst = .idle)
    (hc : userCode P.codeArg = false) : exec (.unbind p) s = .next (s.withPort p (completedPort P .slotRange 0)) := by
  change execUnbind p s = _
  rw [execUnbind, onIdlePort_idle h hp, hc, ← failCommand_eq_withPort h]
  rfl

/-- Settles O10: the code is refused, or it names an entry that is the placeholder or not. -/
theorem unbindChecksThenEmptiesTheSlot : Obligations.UnbindChecksThenEmptiesTheSlot := by
  intro s p P h hp
  cases hc : userCode P.parg0.toNat with
  | false =>
    rw [if_pos (userCode_eq_false_iff.1 hc)]
    exact exec_unbind_slotRange h hp hc
  | true =>
    obtain ⟨hlo, hhi⟩ := userCode_iff.1 hc
    have slot : s.slot? P.parg0.toNat = s.slots[P.parg0.toNat]? := slot?_lt (Nat.lt_succ_of_le hhi)
    have inRange : ¬ (P.parg0.toNat < 32 ∨ P.parg0.toNat > 254) := by omega
    change execUnbind p s = _
    rw [if_neg inRange, execUnbind, onIdlePort_idle h hp, Port.codeArg, hc, slot,
      failCommand_eq_withPort h .emptySlot, setSlot_complete_eq h]
    rfl

/-- Settles O11: the code has no slot, or its entry is the placeholder or not. -/
theorem isUsedReportsTheSlot : Obligations.IsUsedReportsTheSlot := by
  intro s p P h hp
  change execIsUsed p s = _
  rw [execIsUsed, onIdlePort_idle h hp, failCommand_eq_withPort h, complete_eq_withPort h, Port.codeArg]
  by_cases hc : P.parg0.toNat ≤ 254
  · have slot : s.slot? P.parg0.toNat = s.slots[P.parg0.toNat]? := slot?_lt (Nat.lt_succ_of_le hc)
    rw [slot, hasSlot_iff.2 hc, if_neg (Nat.not_lt.2 hc)]
    by_cases hs : s.slots[P.parg0.toNat]? = some .placeholder <;> simp [hs]
  · rw [Bool.eq_false_iff.2 (mt hasSlot_iff.1 hc), if_pos (Nat.lt_of_not_le hc)]
    rfl

/-! ## What changes the slot table -/

/-- A command leaves the slot table, or is a BIND or UNBIND of an idle port and sets the entry of the user code its
PARG0 holds. -/
theorem exec_command_slots {i : Instr} {p : Nat} {s t : State} (hi : i.source = .pcmd p) (h : exec i s = .next t) :
    t.slots = s.slots ∨
      ∃ P x, (i = .bind p ∨ i = .unbind p) ∧ s.ports[p]? = some P ∧ P.pst = .idle ∧ userCode P.codeArg = true ∧
        t.slots = s.slots.set P.codeArg x := by
  cases i <;> simp only [Instr.source, reduceCtorEq, Source.pcmd.injEq] at hi <;> subst hi
  all_goals
    obtain ⟨P, hP, ⟨hp, rfl⟩ | ⟨_, rfl⟩⟩ := onIdlePort_eq_next.1 h
    case inr => exact .inl rfl
  case sendMsg => left; split <;> rfl
  case sendBundle => left; split <;> rfl
  case isUsed => left; split <;> rfl
  case badCommand => exact .inl rfl
  case bind =>
    split
    · exact .inl rfl
    · rename_i hc
      split
      · exact .inl rfl
      · split
        · exact .inl rfl
        · exact .inr ⟨P, _, .inl rfl, hP, hp, by simpa using hc, rfl⟩
  case unbind =>
    split
    · exact .inl rfl
    · rename_i hc
      split
      · exact .inl rfl
      · exact .inr ⟨P, _, .inr rfl, hP, hp, by simpa using hc, rfl⟩

/-- No global register is a slot. -/
theorem writeGlobal_slots (w : Word) (s : State) (r : GlobalReg) : (writeGlobal w s r).slots = s.slots := by
  cases r
  case bps | chunk | dispAck =>
    rw [writeGlobal]
    split <;> rfl
  all_goals rfl

/-- The host bus's part of a cycle leaves the slot table, or runs the command of a PCMD write. -/
theorem hostCycle_slots {inp : Input} {s h : State} (hx : hostCycle inp s = .next h) :
    h.slots = s.slots ∨
      ∃ p, Input.target inp s = .port p .pcmd ∧ exec (decodeCommand p inp.busWdata) s = .next h := by
  unfold hostCycle at hx
  split at hx
  case isFalse => cases hx; exact .inl rfl
  cases htgt : Input.target inp s <;> rw [htgt] at hx <;> simp only [busWrite] at hx
  case glob r =>
    left
    cases hx
    split
    · exact writeGlobal_slots _ s r
    · rfl
  case port p r =>
    split at hx
    · cases r
      case pcmd => exact .inr ⟨p, rfl, hx⟩
      all_goals cases hx; exact .inl rfl
    · cases hx; exact .inl rfl
  all_goals cases hx; exact .inl rfl

/-- The host bus's part of a cycle keeps the entries of the reserved codes. -/
theorem hostCycle_reserved_slots {inp : Input} {s h : State} (hx : hostCycle inp s = .next h) {c : Nat} (hc : c < 32) :
    h.slots[c]? = s.slots[c]? := by
  rcases hostCycle_slots hx with e | ⟨p, _, he⟩
  · rw [e]
  · rcases exec_command_slots (decodeCommand_source p _) he with e | ⟨P, x, _, _, _, hu, e⟩
    · rw [e]
    · have := (userCode_iff.1 hu).1
      rw [e, List.getElem?_set_ne (by omega)]

/-- The slot table after reset (10_state.md R42). -/
theorem resetCycle_slots (inp : Input) (s : State) {c : Nat} (hc : c < nslot) :
    (resetCycle inp s).slots[c]? = some (resetSlot c) := by
  change ((List.range 255).map resetSlot)[c]? = _
  rw [List.getElem?_map, List.getElem?_range hc, Option.map_some]

/-- Settles O31: a reset rebuilds the reserved entries, and no agent's part of a cycle reaches them; below 32 a code
fails the first check of BIND and of UNBIND. -/
theorem reservedSlotsNeverChange : Obligations.ReservedSlotsNeverChange := by
  constructor
  · intro s t hs ht c hc
    rcases step_eq_next.1 ht with ⟨_, rfl⟩ | ⟨_, _, rfl⟩ | ⟨_, _, h, a, r, h1, h2, _, rfl⟩
    · exact resetCycle_slots _ s (Nat.lt_trans hc (by decide))
    · exact hs c hc
    · have txSlots : a.slots = h.slots := by rw [txCycle_frame h2]
      change (joinAgents s a r).slots[c]? = _
      rw [joinAgents_slots, txSlots, hostCycle_reserved_slots h1 hc, hs c hc]
  · intro s p P h hp hlo
    have hc : userCode P.codeArg = false := userCode_eq_false_iff.2 (.inl hlo)
    exact ⟨exec_bind_slotRange h hp hc, exec_unbind_slotRange h hp hc⟩

/-! ## DISP_ACK -/

/-- The RX engine's part of a cycle that acknowledges no dispatch is the engine's own step. -/
theorem rxCycle_not_acked {inp : Input} {s : State} (h : acked inp s = false) : rxCycle inp s = rxStep inp s := by
  unfold rxCycle
  rw [h]
  cases rxStep inp s <;> rfl

/-- A cycle that acknowledges the dispatch the RX engine waits for. -/
theorem rxCycle_acked {inp : Input} {s : State} (hr : s.rx.rs = .dwait) (h : acked inp s = true) :
    rxCycle inp s = .next (s.ackDispatch (inp.busWdata.getLsbD 0)) := by
  have wait : rxStep inp s = .next s := by rw [rxStep, hr]
  rw [rxCycle, wait, andThen_next, if_pos h]

/-- DISP_ACK stands at 0x24 (10_state.md R22). -/
theorem busTarget_dispAck (nport : Nat) : busTarget nport 0x24 = .glob .dispAck := rfl

/-- The write of DISP_ACK acknowledges exactly a pending dispatch. -/
theorem WritesWord.acked_dispAck {inp : Input} {w : Word} (h : WritesWord inp 0x24 w) (s : State) :
    acked inp s = s.disp.pend := by
  have hw : Input.writesGlobal inp s .dispAck = true := by
    have ht : Input.target inp s = .glob .dispAck := h.target.trans (busTarget_dispAck _)
    obtain ⟨hvalid, hwrite, hstrb, _, _⟩ := h
    simp [Input.writesGlobal, hvalid, hwrite, hstrb, ht, fullStrobe]
  rw [acked, hw, Bool.and_true]

/-- On the host bus the write of DISP_ACK is dropped with ACKDROP where no dispatch is pending (R212), and is the RX
engine's to answer where one is. -/
theorem WritesWord.hostCycle_dispAck {inp : Input} {w : Word} (h : WritesWord inp 0x24 w) (s : State) :
    Machine.hostCycle inp s = .next (if s.disp.pend = true then s else { s with ackdrop := true }) := by
  rw [h.hostCycle, busTarget_dispAck]
  rfl

/-- The acknowledged state in one form: a failing user handler is reported. -/
theorem ackDispatch_eq (s : State) (fail : Bool) :
    s.ackDispatch fail = { s with
      disp := ⟨false, .placeholder, 0, 0⟩
      rx := { s.rx with rs := .hdr }
      lastFail := if s.disp.kind = .ext ∧ fail = true then ⟨s.disp.code, .handler, s.disp.hid⟩ else s.lastFail
      cnt := { s.cnt with
        hfail := if s.disp.kind = .ext ∧ fail = true then s.cnt.hfail + 1 else s.cnt.hfail } } := by
  by_cases hf : s.disp.kind = .ext ∧ fail = true
  · simp only [State.ackDispatch, if_pos hf]
    rfl
  · simp only [State.ackDispatch, if_neg hf]
    rfl

/-- Settles O27: the host bus leaves the write to the RX engine, which waits and is acknowledged. -/
theorem dispAckEndsThePendingDispatch : Obligations.DispAckEndsThePendingDispatch := by
  intro s inp w hpend hr (hw : WritesWord inp 0x24 w)
  have ⟨_, _, _, _, hdata⟩ := hw
  refine ⟨?_, ?_⟩
  · rw [hw.hostCycle_dispAck, if_pos hpend]
  · rw [rxCycle_acked hr ((hw.acked_dispAck s).trans hpend), hdata, ackDispatch_eq]

/-- Settles O28: nothing is acknowledged, so the write only sets ACKDROP. -/
theorem strayDispAckSetsAckdrop : Obligations.StrayDispAckSetsAckdrop := by
  intro s inp w hpend (hw : WritesWord inp 0x24 w)
  refine ⟨?_, rxCycle_not_acked ((hw.acked_dispAck s).trans hpend)⟩
  rw [hw.hostCycle_dispAck, if_neg (by simp [hpend])]

end Sys2Proof.Machine
end

section
/-! The RX engine's step by what is read (43_engine_rx.md R255), and the output `rx_ready` (R258). -/

namespace Sys2Proof.Machine

/-! ## A channel fault -/

/-- The body read is over exactly where every byte is there or the timeout has passed (R243). -/
theorem bodyOver_eq_true {s : State} :
    bodyOver s = true ↔ s.rx.bcnt = s.rx.cur.len.toNat ∨ ∃ q, s.rx.tmo = some q ∧ q < s.rx.e := by
  unfold bodyOver timedOut
  cases s.rx.tmo <;> simp

/-- Where a body is read and over, the engine's step is the classification cycle. -/
theorem rxStep_bodyOver {s : State} (h : s.rx.rs.inBody = true) (ho : bodyOver s = true) (inp : Input) :
    rxStep inp s = classifyCycle s := by
  unfold rxStep bodyCycle
  cases hr : s.rx.rs <;> simp_all [RxState.inBody]

/-- A fault in a header cycle ends the read task, whether or not a byte is offered (R255). -/
theorem headerCycle_fault {inp : Input} (hf : inp.rxFault = true) (s : State) :
    headerCycle inp s = s.setRs .dead := if_pos hf

/-- A fault in a reading body cycle ends the read task, whether or not a byte is offered (R255). -/
theorem readBody_fault {inp : Input} (hf : inp.rxFault = true) (s : State) :
    readBody inp s = .next (s.setRs .dead) := if_pos hf

/-- Settles O43: a fault is tested first in a header cycle, and in a body cycle only where the body is not over. -/
theorem channelFaultPriorities : Obligations.ChannelFaultPriorities := by
  intro s inp
  refine ⟨?header, ?reading, ?classifies, ?waiting⟩
  case header =>
    intro hs hf
    rw [rxStep_inHeader hs, headerCycle_fault hf]
    rfl
  case reading =>
    intro hs missing inTime hf
    rw [rxStep_inBody hs (bodyOver_eq_false.2 ⟨missing, inTime⟩), readBody_fault hf]
    rfl
  case classifies => exact fun hs ho => rxStep_bodyOver hs (bodyOver_eq_true.2 ho) inp
  case waiting => rintro (hr | hr) <;> rw [rxStep, hr]

/-! ## rx_ready -/

/-- What a step drives: the reset outputs in a reset cycle, the outputs of the state it starts in otherwise. -/
theorem step_out {s t : State} (h : step s = .next t) :
    t.env.out =
      if (nextInput s).rst = true then resetOutputs (nextInput s) s else outputs (nextInput s) s := by
  rcases step_eq_next.1 h with ⟨hr, rfl⟩ | ⟨hr, _, rfl⟩ | ⟨hr, _, _, _, _, _, _, _, rfl⟩
  · rw [if_pos hr]
    rfl
  all_goals
    rw [hr]
    rfl

/-- A body is in time where it has no timeout or has not passed it. -/
theorem timedOut_eq_false {s : State} :
    timedOut s = false ↔ s.rx.tmo = none ∨ ∃ q, s.rx.tmo = some q ∧ s.rx.e ≤ q := by
  unfold timedOut
  cases s.rx.tmo <;> simp

/-- `rx_ready` of a cycle without reset, as R258 says it. -/
theorem rxReady_iff {s : State} :
    rxReady s = true ↔
      s.halted = false ∧
        (s.rx.rs = .hdr ∨ s.rx.rs = .fhdr ∨
          ((s.rx.rs = .body ∨ s.rx.rs = .fbody) ∧ s.rx.bcnt < s.rx.cur.len.toNat ∧
            (s.rx.tmo = none ∨ ∃ q, s.rx.tmo = some q ∧ s.rx.e ≤ q))) := by
  rw [← timedOut_eq_false]
  unfold rxReady
  cases hr : s.rx.rs <;> simp

/-- Settles O44: in a reset cycle the output is 0, in any other `rxReady` of the pre-state. -/
theorem rxReadyRule : Obligations.RxReadyRule := by
  intro s t ht
  rw [step_out ht]
  cases hr : (nextInput s).rst with
  | true => simp [resetOutputs]
  | false => simpa [outputs] using rxReady_iff

end Sys2Proof.Machine
end

section
/-! The byte stream of a send (44_engine_tx.md R284, R285).

The TX engine computes each byte from its index, and every frame is found in the stream in the same way: four header bytes,
then the body. A message is one such frame. In a bundle the fragments follow the header message, and each of them but the
last takes 259 bytes, so fragment `k` begins 259 * `k` bytes behind the header message. -/

namespace Sys2Proof.Machine

/-! ## Bytes read by index -/

/-- Reading `m + n` bytes: the first `m`, then `n` more from index `m`. -/
theorem map_range_add (f : Nat → Byte) (m n : Nat) :
    (List.range (m + n)).map f = (List.range m).map f ++ (List.range n).map fun i => f (m + i) := by
  simp [List.range_add, Function.comp_def]

/-- A frame read by index: four header bytes, then the body's. -/
theorem map_range_frame {f g : Nat → Byte} {len : Nat} {s t c : Byte}
    (header : ∀ q < 4, f q = streamHeaderByte len s t c q) (body : ∀ q < len, f (4 + q) = g q) :
    (List.range (4 + len)).map f = messageEncode s t c ((List.range len).map g) := by
  have header_bytes : (List.range 4).map f = headerEncode ⟨BitVec.ofNat 8 len, s, t, c⟩ :=
    List.map_congr_left fun q hq => header q (List.mem_range.1 hq)
  have body_bytes : (List.range len).map (fun q => f (4 + q)) = (List.range len).map g :=
    List.map_congr_left fun q hq => body q (List.mem_range.1 hq)
  rw [map_range_add, header_bytes, body_bytes, messageEncode, List.length_map, List.length_range]

/-- A list read by index. -/
theorem map_range_getD (bs : List Byte) : (List.range bs.length).map (fun i => bs.getD i 0) = bs := by
  apply List.ext_getElem <;> simp +contextual

/-! ## The fragments of a payload in a buffer -/

/-- A fragment before the last one is full. -/
theorem le_of_lt_fragmentCount {len k : Nat} (h : k < fragmentCount len) : 255 * k ≤ len := by
  unfold fragmentCount cdiv at h
  omega

/-- The split of a payload that is read from a buffer. -/
theorem bundleSplit_map_range (buf : Nat → Byte) (len : Nat) :
    bundleSplit ((List.range len).map buf) =
      (List.range (fragmentCount len)).map fun k => (List.range (fragmentLen len k)).map fun q => buf (255 * k + q) := by
  have chunk (k : Nat) : (((List.range len).map buf).drop (255 * k)).take 255 =
      (List.range (fragmentLen len k)).map fun q => buf (255 * k + q) := by
    apply List.ext_getElem <;> simp [fragmentLen]
  simp [bundleSplit, chunk]

/-! ## The stream of a message -/

theorem streamLen_msg {sc : SendCtx} (h : sc.kind = .msg) : streamLen sc = 4 + sc.len := by
  simp [streamLen, h]

/-- A message's stream is one frame (R284). -/
theorem map_streamByte_msg {sc : SendCtx} (h : sc.kind = .msg) (buf : Nat → Byte) :
    (List.range (4 + sc.len)).map (streamByte sc buf) =
      messageEncode sc.sender sc.target sc.code ((List.range sc.len).map buf) := by
  apply map_range_frame
  · intro q hq
    simp [streamByte, h, hq]
  · intro q hq
    simp [streamByte, h]

/-! ## The stream of a bundle -/

/-- The bytes of a bundle's stream before its fragments: the length of its header message. -/
def fragmentsStart (len : Nat) : Nat := 4 + (formatCount (fragmentCount len)).length

/-- A bundle's stream begins with its header message, whose body is the fragment count. -/
theorem map_streamByte_bundle_header {sc : SendCtx} (h : sc.kind = .bundle) (buf : Nat → Byte) :
    (List.range (fragmentsStart sc.len)).map (streamByte sc buf) =
      messageEncode sc.sender sc.target codeBundle (formatCount (fragmentCount sc.len)) := by
  rw [fragmentsStart, map_range_frame (g := fun i => (formatCount (fragmentCount sc.len)).getD i 0), map_range_getD]
  · intro q hq
    simp [streamByte, h, hq]
  · intro q hq
    simp [streamByte, h, hq]

/-- The byte at offset `q` of fragment `k`'s frame. -/
theorem streamByte_fragment {sc : SendCtx} (h : sc.kind = .bundle) (buf : Nat → Byte) (k : Nat) {q : Nat} (hq : q < 259) :
    streamByte sc buf (fragmentsStart sc.len + (259 * k + q)) =
      if q < 4 then streamHeaderByte (fragmentLen sc.len k) sc.sender sc.target sc.code q else buf (255 * k + q - 4) := by
  have notHeader : ¬ fragmentsStart sc.len + (259 * k + q) < 4 := by
    unfold fragmentsStart
    omega
  have frame : (259 * k + q) / 259 = k := by omega
  have offset : (259 * k + q) % 259 = q := by omega
  rw [fragmentsStart] at notHeader ⊢
  simp [streamByte, h, notHeader, frame, offset]

/-- One fragment's frame in a bundle's stream. -/
theorem map_streamByte_fragment {sc : SendCtx} (h : sc.kind = .bundle) (buf : Nat → Byte) (k : Nat) :
    (List.range (4 + fragmentLen sc.len k)).map (fun q => streamByte sc buf (fragmentsStart sc.len + (259 * k + q))) =
      messageEncode sc.sender sc.target sc.code
        ((List.range (fragmentLen sc.len k)).map fun q => buf (255 * k + q)) := by
  have le : fragmentLen sc.len k ≤ 255 := Nat.min_le_left _ _
  apply map_range_frame
  · intro q hq
    rw [streamByte_fragment h buf k (by omega), if_pos hq]
  · intro q hq
    rw [streamByte_fragment h buf k (by omega), if_neg (by omega)]
    congr 1
    omega

/-- The first `m` fragments of a bundle's stream, by induction on their number: those before the last one are full, so the
next frame begins at a multiple of 259. -/
theorem map_streamByte_fragments {sc : SendCtx} (h : sc.kind = .bundle) (buf : Nat → Byte) {m : Nat}
    (hm : m ≤ fragmentCount sc.len) :
    (List.range (4 * m + min sc.len (255 * m))).map (fun i => streamByte sc buf (fragmentsStart sc.len + i)) =
      (List.range m).flatMap fun k => messageEncode sc.sender sc.target sc.code
        ((List.range (fragmentLen sc.len k)).map fun q => buf (255 * k + q)) := by
  induction m with
  | zero => simp
  | succ m ih =>
    have full : 255 * m ≤ sc.len := le_of_lt_fragmentCount hm
    have before : 4 * m + min sc.len (255 * m) = 259 * m := by omega
    have upTo : 4 * (m + 1) + min sc.len (255 * (m + 1)) = 259 * m + (4 + fragmentLen sc.len m) := by
      unfold fragmentLen
      omega
    rw [upTo, map_range_add, map_streamByte_fragment h, ← before, ih (by omega), List.range_succ, List.flatMap_append,
      List.flatMap_singleton]

/-- The length of a bundle's stream: the header message, four bytes more for each fragment, and the payload. -/
theorem streamLen_bundle {sc : SendCtx} (h : sc.kind = .bundle) :
    streamLen sc = fragmentsStart sc.len + (4 * fragmentCount sc.len + sc.len) := by
  simp [streamLen, h, fragmentsStart, Nat.add_assoc]

/-- A bundle's stream is its header message and then its fragments (R285). -/
theorem map_streamByte_bundle {sc : SendCtx} (h : sc.kind = .bundle) (buf : Nat → Byte) :
    (List.range (streamLen sc)).map (streamByte sc buf) =
      bundleEncode sc.sender sc.target sc.code ((List.range sc.len).map buf) := by
  have fragments := map_streamByte_fragments h buf (Nat.le_refl _)
  rw [Nat.min_eq_left (le_mul_fragmentCount sc.len)] at fragments
  rw [streamLen_bundle h, map_range_add, map_streamByte_bundle_header h, fragments, bundleEncode, bundleSplit_map_range,
    List.length_map, List.length_range, List.flatMap_map]

/-! ## The obligation -/

/-- A send of legal length takes at most 66052 bytes, 255 full fragments behind a count of three digits. -/
theorem streamLen_le {sc : SendCtx} (h : sc.len ≤ sc.kind.maxLen) : streamLen sc ≤ 66052 := by
  cases hk : sc.kind with
  | msg =>
    have hlen : sc.len ≤ 255 := by rwa [hk] at h
    rw [streamLen_msg hk]
    omega
  | bundle =>
    have hlen : sc.len ≤ 255 * 255 := by rwa [hk] at h
    have count := (fragmentCount_le_iff (by decide) sc.len).2 hlen
    have digits := length_formatCount_le (fragmentCount sc.len)
    rw [streamLen_bundle hk, fragmentsStart]
    omega

/-- Settles O37: the stream of a message is its one frame, the stream of a bundle its header message and its fragments. -/
theorem streamIsTheEncodedFrame : Obligations.StreamIsTheEncodedFrame := by
  intro sc buf hlen
  refine ⟨?_, streamLen_le hlen, fun hk => ?_⟩
  · cases hk : sc.kind with
    | msg =>
      rw [streamLen_msg hk]
      exact map_streamByte_msg hk buf
    | bundle => exact map_streamByte_bundle hk buf
  · exact streamLen_msg hk

end Sys2Proof.Machine
end

section
/-! The host interface: commands that are illegal or dropped (45_host_interface.md R311, R312), the TXBUF windows (R320,
20_memory.md R75), and the HALTED block (R321).

A window write is four lane writes to four different bytes, so a byte of the window is decided by its own lane. -/

namespace Sys2Proof.Machine

/-! ## Commands -/

/-- A legal command word has an OP in 1 .. 5 and a zero rest (30_encoding.md R112). -/
theorem legalCommandWord_fields {w : Word} (h : legalCommandWord w = true) :
    w.extractLsb' 8 24 = 0 ∧ 1 ≤ (w.extractLsb' 0 8).toNat ∧ (w.extractLsb' 0 8).toNat ≤ 5 := by
  simp only [legalCommandWord, Bool.or_eq_true, beq_iff_eq] at h
  rcases h with (((rfl | rfl) | rfl) | rfl) | rfl <;> decide

/-- A word that is no legal command word decodes to BAD_COMMAND (30_encoding.md R113). -/
theorem decodeCommand_illegal {w : Word} (h : legalCommandWord w = false) (p : Nat) :
    decodeCommand p w = .badCommand p w := by
  simp only [legalCommandWord, Bool.or_eq_false_iff, beq_eq_false_iff_ne] at h
  obtain ⟨⟨⟨⟨notSendMsg, notSendBundle⟩, notBind⟩, notUnbind⟩, notIsUsed⟩ := h
  rw [decodeCommand, if_neg notSendMsg, if_neg notSendBundle, if_neg notBind, if_neg notUnbind, if_neg notIsUsed]

/-- Every command asks first whether its port is idle (R310). -/
theorem exec_command_eq {i : Instr} {p : Nat} (hi : i.source = .pcmd p) (s : State) :
    ∃ body, exec i s = onIdlePort p s body := by
  cases i <;> simp only [Instr.source, reduceCtorEq, Source.pcmd.injEq] at hi <;> subst hi <;> exact ⟨_, rfl⟩

/-- Settles O12: a word with such an OP or such a rest is no legal command word. -/
theorem illegalCommandCompletesWithBadCommand : Obligations.IllegalCommandCompletesWithBadCommand := by
  intro s p P w h hp hw
  have illegal : legalCommandWord w = false := by
    rw [← Bool.not_eq_true]
    intro hl
    obtain ⟨hrest, hlo, hhi⟩ := legalCommandWord_fields hl
    rcases hw with hw | hw | hw
    · exact hw hrest
    · omega
    · omega
  refine ⟨decodeCommand_illegal illegal p, ?_, rfl⟩
  change execBadCommand p w s = _
  rw [execBadCommand, onIdlePort_idle h hp, failCommand_eq_withPort h]

/-- Settles O13: every command is dropped by the test it starts with. -/
theorem busyPortDropsEveryCommand : Obligations.BusyPortDropsEveryCommand := by
  intro s p P i hi h hp
  obtain ⟨body, e⟩ := exec_command_eq hi s
  rw [e, onIdlePort_busy h hp, updPort_eq_withPort h]
  rfl

/-! ## TXBUF windows -/

/-- A lane write at each byte: the lane at its own byte where that exists and is strobed, the old contents elsewhere. -/
theorem memRead_writeLane {m : Memory} (h : m.wf) (o a : Nat) (w : Word) (strb : BitVec 4) (k : Nat) :
    memRead (writeLane o w strb k m) a =
      if a = o + k ∧ a ≤ 65024 ∧ strb.getLsbD k = true then some (lane k w) else memRead m a := by
  unfold writeLane
  split
  case isTrue hk =>
    rw [memRead_memWrite h.1]
    exact if_congr ⟨fun e => ⟨e, Nat.lt_succ_iff.1 (e ▸ hk.2), hk.1⟩, fun c => c.1⟩ rfl rfl
  case isFalse hk => rw [if_neg fun ⟨e, hle, hs⟩ => hk ⟨hs, Nat.lt_succ_iff.2 (e ▸ hle)⟩]

/-- A window write at each byte (R75): its lane where the byte is in the word, exists and is strobed. -/
theorem memRead_writeLanes {m : Memory} (h : m.wf) (o a : Nat) (w : Word) (strb : BitVec 4) :
    memRead (writeLanes o w strb m) a =
      if o ≤ a ∧ a < o + 4 ∧ a ≤ 65024 ∧ strb.getLsbD (a - o) = true then some (lane (a - o) w) else memRead m a := by
  have h0 := writeLane_wf h o w strb 0
  have h1 := writeLane_wf h0 o w strb 1
  have h2 := writeLane_wf h1 o w strb 2
  rw [writeLanes, memRead_writeLane h2, memRead_writeLane h1, memRead_writeLane h0, memRead_writeLane h]
  by_cases hin : o ≤ a ∧ a < o + 4
  · obtain ⟨k, hk, rfl⟩ : ∃ k, k < 4 ∧ a = o + k := ⟨a - o, by omega, by omega⟩
    rw [Nat.add_sub_cancel_left]
    interval_cases k <;> simp
  · rw [if_neg (by omega), if_neg (by omega), if_neg (by omega), if_neg (by omega), if_neg (by omega)]

/-- An offset below 64 KiB from the base of a port's window reaches that window (20_memory.md R71). -/
theorem busTarget_txbuf {nport p o : Nat} (hn : nport ≤ 8) (hp : p < nport) (ho : o < 0x10000) :
    busTarget nport (0x20000 + 0x10000 * p + o) = .txbuf p o := by
  have port : (0x20000 + 0x10000 * p + o - 0x20000) / 0x10000 = p := by omega
  have offset : (0x20000 + 0x10000 * p + o - 0x20000) % 0x10000 = o := by omega
  unfold busTarget portBase txWindow
  rw [if_neg (by omega), if_neg (by omega), if_neg (by omega), if_neg (by omega), if_pos (by omega), port, offset]

/-- The host bus's part of a cycle with a write that reaches a port's window. -/
theorem hostCycle_txbuf {s : State} {inp : Input} {p o : Nat} {P : Port} (hv : inp.busValid = true)
    (hw : inp.busWrite = true) (ht : Input.target inp s = .txbuf p o) (h : s.ports[p]? = some P) :
    hostCycle inp s = .next (s.withPort p (if P.pst = .idle then
      { P with txbuf := writeLanes o inp.busWdata inp.busWstrb P.txbuf } else { P with wdrop := true })) := by
  rw [hostCycle, if_pos ⟨hv, hw⟩, ht, busWrite, writeTxbuf, updPort_eq_withPort h]

/-- Settles O49: the write reaches the window, and the port is idle or busy. -/
theorem txbufWindowWrites : Obligations.TxbufWindowWrites := by
  intro s inp p o P hv hw ha ho hl hp h hm
  obtain ⟨_, ⟨_, hn⟩, _⟩ := hl
  have ht : Input.target inp s = .txbuf p o := by rw [Input.target, ha, busTarget_txbuf hn hp ho]
  refine ⟨by rw [ht]; rfl, _, hostCycle_txbuf hv hw ht h, fun busy => if_neg busy, fun idle => ?_⟩
  rw [if_pos idle]
  exact ⟨rfl, writeLanes_wf hm o _ _, fun a => memRead_writeLanes hm o a _ _⟩

/-! ## HALTED -/

/-- Settles O57: the step is a HALTED cycle, which advances the environment record alone and drives the outputs of the
frozen state. -/
theorem haltedBlockIsFrozen : Obligations.HaltedBlockIsFrozen := by
  intro s hh hr
  have notReady : rxReady s = false := by
    rw [← Bool.not_eq_true, rxReady_iff, hh]
    simp
  refine ⟨_, step_eq_next.2 (.inr (.inl ⟨hr, hh, rfl⟩)), rfl, notReady, if_pos hh, ?_, ?_⟩
  · intro hv hw
    simp [Env.advance, outputs, hv, hw]
  · intro hv hw
    simp [Env.advance, outputs, hv, hw]

end Sys2Proof.Machine
end

section
/-! A reset cycle (70_reset_and_hazards.md R370, with the table of 10_state.md R49).

The reset state is built from the instance's parameters alone, so each register of the table has its value by definition.
What is left to say is what holds for every slot and every port, and what the cycle drives. -/

namespace Sys2Proof.Machine

/-- A cycle with `rst` runs none of the agents. -/
theorem step_of_rst {s : State} (h : (nextInput s).rst = true) : step s = .next (resetCycle (nextInput s) s) :=
  step_eq_next.2 (.inl ⟨h, rfl⟩)

/-- No flag of GSTATUS is set after reset, and RXSTATE reads 0, for HDR (10_state.md R26). -/
theorem gstatusWord_resetCycle (inp : Input) (s : State) : gstatusWord (resetCycle inp s) = 0 := by
  simp [gstatusWord, resetCycle, State.resetWith, resetRx, resetTx, bit, RxState.number]

@[simp] theorem resetCycle_ports (inp : Input) (s : State) :
    (resetCycle inp s).ports = List.replicate s.params.nport resetPort := rfl

/-- A read in a reset cycle is answered 0 with OK, whatever its address. -/
theorem resetOutputs_of_read {inp : Input} {s : State} (hv : inp.busValid = true) (hw : inp.busWrite = false) :
    (resetOutputs inp s).busRdata = some 0 ∧ (resetOutputs inp s).busResp = some false := by
  simp [resetOutputs, hv, hw]

/-- Settles O56: the step is the reset cycle, whose registers are those of the table by definition; every port is the
reset port, and the slots and the bus read have their lemmas. -/
theorem resetCycleRebuildsTheState : Obligations.ResetCycleRebuildsTheState := by
  intro s hr
  refine ⟨_, step_of_rst hr,
    rfl, rfl, rfl, rfl, rfl,  -- parameters and configuration
    by simp [resetCycle, State.resetWith], fun c hc => resetCycle_slots _ s hc,
    gstatusWord_resetCycle _ s, rfl, rfl, rfl,
    rfl, rfl, rfl, rfl,  -- DISP_INFO, LAST_FAIL, the frame view, the counters
    by simp, ?ports,
    rfl, rfl, rfl, rfl, rfl, rfl, rfl, rfl, rfl, rfl, rfl, rfl, rfl, rfl,  -- the RX engine
    rfl, rfl, rfl, resetOutputs_of_read⟩
  case ports =>
    intro P hP
    obtain rfl : P = resetPort := List.eq_of_mem_replicate hP
    exact ⟨rfl, rfl, rfl, rfl, rfl, rfl, rfl, rfl, rfl, rfl⟩

end Sys2Proof.Machine
end

section
/-! Decoding and encoding (30_encoding.md sections 1, 2 and 4).

An instruction is a frame, found in the action-code map by its code, or a command of a port. Either way its word names it
and nothing else, so decoding and encoding undo each other word by word, and a word is its four lanes. -/

namespace Sys2Proof

/-! ## Kinds of instructions -/

/-- An instruction with an action code is read from the wire. -/
theorem source_of_code {i : Instr} {c : Byte} (h : i.code? = some c) : i.source = .wire := by
  cases i <;> cases h <;> rfl

/-- The word of a frame is the header with its action code (R100). -/
theorem encode_of_code {i : Instr} {c : Byte} (h : i.code? = some c) (f : HeaderFields) :
    i.encode f = (f.header c).word := by
  cases i <;> cases h <;> rfl

/-- Every frame is well formed (R102). -/
theorem wellFormed_of_code {i : Instr} {c : Byte} (h : i.code? = some c) (nport : Nat) : i.wellFormed nport = true := by
  cases i <;> cases h <;> rfl

/-- The action-code map finds a frame by its code (R106). -/
theorem decodeCode_of_code {i : Instr} {c : Byte} (h : i.code? = some c) : decodeCode c = i := by
  cases i <;> cases h <;> rfl

/-- An instruction is a frame or a command. -/
theorem frame_or_command (i : Instr) : (∃ c, i.code? = some c) ∨ ∃ p, i.source = .pcmd p := by
  cases h : i.code? with
  | some c => exact .inl ⟨c, rfl⟩
  | none => exact .inr (by cases i <;> cases h <;> exact ⟨_, rfl⟩)

/-- A well-formed command names a port that exists. -/
theorem port_lt_of_wellFormed {i : Instr} {p nport : Nat} (hs : i.source = .pcmd p) (hw : i.wellFormed nport = true) :
    p < nport := by
  cases i <;> simp only [Instr.source, reduceCtorEq, Source.pcmd.injEq] at hs <;> subst hs <;>
    simp only [Instr.wellFormed, Bool.and_eq_true, decide_eq_true_eq] at hw
  case badCommand => exact hw.1
  all_goals exact hw

/-! ## Decoding what was encoded -/

@[simp] theorem lanes_ofLanes (b0 b1 b2 b3 : Byte) : lanes (ofLanes b0 b1 b2 b3) = [b0, b1, b2, b3] := by simp [lanes]

/-- The word of a well-formed instruction decodes to it: a frame by the action-code map, a command by its own word. -/
theorem decodeWord_encode {i : Instr} {f : HeaderFields} {nport : Nat} (hw : i.wellFormed nport = true)
    (hc : i.carries f = true) : decodeWord i.source (i.encode f) = (i, f) := by
  suffices roundTrip : Laws.EncodingRoundTrip.Statement i from roundTrip nport f hw hc
  rcases frame_or_command i with ⟨c, h⟩ | ⟨p, h⟩
  · exact Laws.EncodingRoundTrip.frame (source_of_code h) (encode_of_code h) (decodeCode_of_code h)
  · cases i <;> simp only [Instr.source, reduceCtorEq] at h
    case sendMsg q => exact Laws.EncodingRoundTrip.sendMsg q
    case sendBundle q => exact Laws.EncodingRoundTrip.sendBundle q
    case bind q => exact Laws.EncodingRoundTrip.bind q
    case unbind q => exact Laws.EncodingRoundTrip.unbind q
    case isUsed q => exact Laws.EncodingRoundTrip.isUsed q
    case badCommand q w => exact Laws.EncodingRoundTrip.badCommand q w

/-- The lanes of a word decode as the word does, from the wire and from the PCMD of a port that exists. -/
theorem decode_lanes_append {nport : Nat} {src : Source} (hp : ∀ p, src = .pcmd p → p < nport) (w : Word)
    (rest : List Byte) : decode nport src (lanes w ++ rest) = .ok (decodeWord src w, rest) := by
  cases src with
  | wire => simp [decode, lanes]
  | pcmd p => simp [decode, lanes, hp p rfl]

/-- Settles O1: the word round trip, lane by lane. -/
theorem decodeOfEncodeIsIdentity : Obligations.DecodeOfEncodeIsIdentity := by
  intro i f nport rest hw hc
  rw [Instr.bytes, decode_lanes_append fun p hs => port_lt_of_wellFormed hs hw, decodeWord_encode hw hc]

/-! ## Encoding what was decoded -/

/-- The command a PCMD word issues is well formed and has that word. -/
theorem decodeCommand_wellFormed {p nport : Nat} (hp : p < nport) (w : Word) :
    (decodeCommand p w).wellFormed nport = true ∧ ∀ f, (decodeCommand p w).encode f = w := by
  cases hl : legalCommandWord w with
  | false =>
    rw [Machine.decodeCommand_illegal hl]
    exact ⟨by simp [Instr.wellFormed, hp, hl], fun _ => rfl⟩
  | true =>
    simp only [legalCommandWord, Bool.or_eq_true, beq_iff_eq] at hl
    rcases hl with (((rfl | rfl) | rfl) | rfl) | rfl <;>
      exact ⟨decide_eq_true hp, fun _ => rfl⟩

/-- What a word decodes to is well formed, is of the source the word came from, and has that word. -/
theorem decodeWord_spec {nport : Nat} {src : Source} (hp : ∀ p, src = .pcmd p → p < nport) {w : Word} {i : Instr}
    {f : HeaderFields} (h : decodeWord src w = (i, f)) :
    i.wellFormed nport = true ∧ i.carries f = true ∧ i.source = src ∧ i.encode f = w := by
  cases src with
  | pcmd p =>
    obtain ⟨rfl, rfl⟩ : decodeCommand p w = i ∧ HeaderFields.zero = f := by simpa [decodeWord] using h
    obtain ⟨wf, enc⟩ := decodeCommand_wellFormed (hp p rfl) w
    exact ⟨wf, by simp [Instr.carries], Machine.decodeCommand_source p w, enc _⟩
  | wire =>
    obtain ⟨rfl, rfl⟩ : decodeCode (Header.ofWord w).code = i ∧ (Header.ofWord w).fields = f := by
      simpa [decodeWord, decodeHeader] using h
    have code := Machine.code_decodeCode (Header.ofWord w).code
    have src := source_of_code code
    refine ⟨wellFormed_of_code code nport, by simp [Instr.carries, src], src, ?_⟩
    rw [encode_of_code code, fields_header, word_ofWord]

/-- What four bytes and more decode to: a rejection for the PCMD of an absent port, else the instruction of their word. -/
theorem decode_four (nport : Nat) (src : Source) (b0 b1 b2 b3 : Byte) (rest : List Byte) :
    (∃ p, src = .pcmd p ∧ nport ≤ p ∧ decode nport src (b0 :: b1 :: b2 :: b3 :: rest) = .error (.noSuchPort p)) ∨
      ((∀ p, src = .pcmd p → p < nport) ∧
        decode nport src (b0 :: b1 :: b2 :: b3 :: rest) = .ok (decodeWord src (ofLanes b0 b1 b2 b3), rest)) := by
  cases src with
  | wire => exact .inr ⟨by simp, rfl⟩
  | pcmd p =>
    by_cases hp : p < nport
    · exact .inr ⟨by simpa using hp, by simp [decode, hp]⟩
    · exact .inl ⟨p, rfl, Nat.le_of_not_lt hp, by simp [decode, hp]⟩

/-- Fewer than four bytes are no word. -/
theorem decode_short {bytes : List Byte} (h : bytes.length < 4) (nport : Nat) (src : Source) :
    decode nport src bytes = .error (.tooShort bytes.length) := by
  match bytes, h with
  | [], _ | [_], _ | [_, _], _ | [_, _, _], _ => rfl

/-- Settles O2: short bytes, an absent port, and what a word decodes to. -/
theorem decodeAnswersOrRejectsExactly : Obligations.DecodeAnswersOrRejectsExactly := by
  intro nport src bytes
  match bytes with
  | [] | [_] | [_, _] | [_, _, _] =>
    rw [decode_short (by simp)]
    exact ⟨by simp, by simp [eq_comm]⟩
  | b0 :: b1 :: b2 :: b3 :: rest =>
    rcases decode_four nport src b0 b1 b2 b3 rest with ⟨p, rfl, hp, e⟩ | ⟨hp, e⟩ <;> rw [e]
    · refine ⟨by simp, fun x => ?_⟩
      simp [eq_comm, hp]
    · refine ⟨fun i f rest' h => ?_, fun x => ?_⟩
      · obtain ⟨h1, rfl⟩ : decodeWord src (ofLanes b0 b1 b2 b3) = (i, f) ∧ rest = rest' := by simpa using h
        obtain ⟨wf, ops, src', word⟩ := decodeWord_spec hp h1
        exact ⟨wf, ops, src', by rw [Instr.bytes, word, lanes_ofLanes]; rfl⟩
      · constructor
        · intro h
          cases h
        · rintro (⟨hl, _⟩ | ⟨_, p, hs, hn, _⟩)
          · simp only [List.length_cons] at hl
            omega
          · exact absurd (hp p hs) (Nat.not_lt.2 hn)

/-- Settles O3: the ten words, each by evaluation of the decoder. -/
theorem specWordsDecodeToTheirInstructions : Obligations.SpecWordsDecodeToTheirInstructions :=
  ⟨rfl, rfl, rfl, rfl, rfl, rfl, rfl, rfl, rfl, rfl⟩

end Sys2Proof
end

section
/-! The host commands: their checks and effects on an idle port, and what a command leaves unchanged (42_dispatch.md R201,
44_engine_tx.md R280, R281, 45_host_interface.md R310). -/

namespace Sys2Proof.Machine

/-! ## SEND_MSG and SEND_BUNDLE -/

/-- A send command on an idle port, by the outcome of its checks: the byte range, then the size. -/
theorem issueSend_idle {s : State} {p : Nat} {P : Port} (h : s.ports[p]? = some P) (hp : P.pst = .idle)
    (kind : SendKind) (maxlen : Nat) :
    issueSend kind maxlen p s = .next (s.withPort p
      (if P.txSender.toNat > 255 ∨ P.txTarget.toNat > 255 ∨ P.txCode.toNat > 255 then
        completedPort P .valueOutOfByteRange 0
      else if P.txLen.toNat > maxlen then completedPort P .oversizedMessage 0
      else sendingPort P kind)) := by
  have check : P.sendCheck maxlen = headerCheck _ _ _ _ maxlen := rfl
  unfold headerCheck at check
  split at check
  · rename_i range
    rw [if_pos range, issueSend_refused h hp check (by decide)]
  · rename_i range
    split at check
    · rename_i size
      rw [if_neg range, if_pos size, issueSend_refused h hp check (by decide)]
    · rename_i size
      rw [if_neg range, if_neg size, issueSend_accepted h hp check]

/-- Settles O7: the checks of a message. -/
theorem sendMsgChecksThenWaitsForTheLock : Obligations.SendMsgChecksThenWaitsForTheLock := by
  intro s p P h hp
  exact issueSend_idle h hp .msg 255

/-- Settles O8: the checks of a bundle. -/
theorem sendBundleChecksThenWaitsForTheLock : Obligations.SendBundleChecksThenWaitsForTheLock := by
  intro s p P h hp
  exact issueSend_idle h hp .bundle 65025

/-! ## BIND -/

theorem invocable_iff {P : Params} {h : Nat} : invocable P h = true ↔ h < P.nhandler := by simp [invocable]

/-- Settles O9: the code is refused, or the handler is, or the code names an entry that is the placeholder or not. -/
theorem bindChecksThenBindsTheSlot : Obligations.BindChecksThenBindsTheSlot := by
  intro s p P h hp
  cases hc : userCode P.parg0.toNat with
  | false =>
    rw [if_pos (userCode_eq_false_iff.1 hc)]
    exact exec_bind_slotRange h hp hc
  | true =>
    obtain ⟨hlo, hhi⟩ := userCode_iff.1 hc
    have slot : s.slot? P.parg0.toNat = s.slots[P.parg0.toNat]? := slot?_lt (Nat.lt_succ_of_le hhi)
    have inRange : ¬ (P.parg0.toNat < 32 ∨ P.parg0.toNat > 254) := by omega
    change execBind p s = _
    rw [if_neg inRange, execBind, onIdlePort_idle h hp, Port.codeArg, hc, slot, Port.hidArg,
      failCommand_eq_withPort h .notInvocable, failCommand_eq_withPort h .slotAlreadyUsed, setSlot_complete_eq h,
      BitVec.ofNat_toNat]
    by_cases hh : P.parg1.toNat < s.params.nhandler
    · rw [invocable_iff.2 hh, if_neg (Nat.not_le.2 hh)]
      rfl
    · rw [Bool.eq_false_iff.2 (mt invocable_iff.1 hh), if_pos (Nat.le_of_not_lt hh)]
      rfl

/-! ## What a command leaves unchanged -/

/-- What a command writes of its own port: its state, send context, DONE, CMDDROP, ERR and PRESULT. -/
def CommandWrites (P Q : Port) : Prop :=
  Q = { P with pst := Q.pst, sc := Q.sc, done := Q.done, cmddrop := Q.cmddrop, err := Q.err, result := Q.result }

/-- A command that answers updates its own port, which exists, within `CommandWrites`. -/
theorem exec_command_ports {i : Instr} {p : Nat} {s t : State} (hi : i.source = .pcmd p) (h : exec i s = .next t) :
    ∃ P f, s.ports[p]? = some P ∧ t.ports = s.ports.modify p f ∧ ∀ P, CommandWrites P (f P) := by
  cases i <;> simp only [Instr.source, reduceCtorEq, Source.pcmd.injEq] at hi <;> subst hi
  all_goals
    obtain ⟨P, hP, ⟨_, rfl⟩ | ⟨_, rfl⟩⟩ := onIdlePort_eq_next.1 h
    case inr => exact ⟨P, _, hP, rfl, fun _ => rfl⟩
  case sendMsg | sendBundle | isUsed => split <;> exact ⟨P, _, hP, rfl, fun _ => rfl⟩
  case badCommand => exact ⟨P, _, hP, rfl, fun _ => rfl⟩
  case unbind =>
    split
    · exact ⟨P, _, hP, rfl, fun _ => rfl⟩
    · split <;> exact ⟨P, _, hP, rfl, fun _ => rfl⟩
  case bind =>
    split
    · exact ⟨P, _, hP, rfl, fun _ => rfl⟩
    · split
      · exact ⟨P, _, hP, rfl, fun _ => rfl⟩
      · split <;> exact ⟨P, _, hP, rfl, fun _ => rfl⟩

/-- Settles O15: a command updates its own port and at most the slot of the user code its PARG0 holds. -/
theorem commandTouchesOnlyItsPortAndSlot : Obligations.CommandTouchesOnlyItsPortAndSlot := by
  intro i p s t hi h
  obtain ⟨P, f, hP, ports, writes⟩ := exec_command_ports hi h
  have slots := exec_command_slots hi h
  refine ⟨exec_command_frame hi h, by simp [ports], ?others, ?own, ?otherCommands⟩
  case others =>
    intro q hq
    rw [ports, List.getElem?_modify_ne f _ (Ne.symm hq)]
  case own =>
    intro P' Q hP' hQ
    obtain rfl : P = P' := Option.some.inj (hP.symm.trans hP')
    obtain rfl : f P = Q := by simpa [ports, hP] using hQ
    refine ⟨writes P, fun c hc => ?_⟩
    rcases slots with e | ⟨P', x, _, hP', _, user, e⟩
    · rw [e]
    · obtain rfl : P = P' := Option.some.inj (hP.symm.trans hP')
      have := (userCode_iff.1 user).1
      have other : P.codeArg ≠ c := by
        unfold Port.codeArg at *
        omega
      rw [e, List.getElem?_set_ne other]
  case otherCommands =>
    intro notBind notUnbind
    rcases slots with e | ⟨_, _, hb | hu, _⟩
    · exact e
    · exact absurd hb notBind
    · exact absurd hu notUnbind

end Sys2Proof.Machine
end

section
/-! The frame instructions (42_dispatch.md section 2, 43_engine_rx.md sections 3 to 5).

Every frame instruction is the classification of its body and then one decision of filter and dispatch mux. What the
delivery leaves does not depend on the decision; what filter and handler then do is the decision alone. -/

namespace Sys2Proof.Machine

/-! ## When an instruction stops -/

/-- Classification stops exactly where the padding would leave RXBUF. -/
theorem classify_eq_fault {s : State} {x : Fault} :
    classify s = .fault x ↔
      isBroken s = true ∧ maxPayload < bodyBase s + s.rx.cur.len.toNat ∧
        x = .rxbufRange (bodyBase s + s.rx.cur.len.toNat) := by
  unfold classify
  by_cases hb : isBroken s = true
  · by_cases h : bodyBase s + s.rx.cur.len.toNat > maxPayload
    · simp [hb, h, eq_comm]
    · simp [hb, h]
  · simp [hb]

theorem classify_not_refused (s : State) (x : Refusal) : classify s ≠ .refused x := by
  unfold classify
  split
  · split <;> exact nofun
  · exact nofun

/-- An operation that always answers, after one that is not refused, answers or stops as that one does. -/
theorem andThen_cases {r : Result} {f : State → Result} (hr : ∀ x, r ≠ .refused x) (hf : ∀ s, ∃ t, f s = .next t) :
    (∃ x, r = .fault x ∧ andThen r f = .fault x) ∨ ∃ s t, r = .next s ∧ andThen r f = .next t := by
  cases r with
  | next s =>
    obtain ⟨t, ht⟩ := hf s
    exact .inr ⟨s, t, rfl, ht⟩
  | fault x => exact .inl ⟨x, rfl, rfl⟩
  | refused x => exact absurd rfl (hr x)

/-- A frame instruction stops as its classification does, and nowhere after it. -/
theorem exec_frame_cases {i : Instr} {c : Byte} (hi : i.code? = some c) (s : State) :
    (∃ x, classify s = .fault x ∧ exec i s = .fault x) ∨ ∃ s1 t, classify s = .next s1 ∧ exec i s = .next t := by
  have complete : (∃ x, classify s = .fault x ∧ completeFrame c s = .fault x) ∨
      ∃ s1 t, classify s = .next s1 ∧ completeFrame c s = .next t := by
    refine andThen_cases (classify_not_refused s) fun s1 => ?_
    split <;> exact ⟨_, rfl⟩
  by_cases hf : s.rx.rs = .fbody
  · rwa [exec_frame_fbody hi hf]
  · by_cases hc : c = 2
    · subst hc
      rw [eq_bundleHeader hi, exec_bundleHeader hf]
      refine andThen_cases (classify_not_refused s) fun s1 => ?_
      split <;> exact ⟨_, rfl⟩
    · rwa [exec_frame hi hc]

/-- A command stops exactly where its port does not exist. -/
theorem exec_command_eq_fault {i : Instr} {p : Nat} (hi : i.source = .pcmd p) {s : State} {x : Fault} :
    exec i s = .fault x ↔ s.ports.length ≤ p ∧ x = .noSuchPort p := by
  obtain ⟨body, e⟩ := exec_command_eq hi s
  rw [e]
  cases hP : s.ports[p]? with
  | none =>
    rw [onIdlePort_missing hP]
    simp [List.getElem?_eq_none_iff.1 hP, eq_comm]
  | some P =>
    have exists_port : p < s.ports.length := (List.getElem?_eq_some_iff.1 hP).1
    by_cases hp : P.pst = .idle
    · simp [onIdlePort_idle hP hp, exists_port]
    · simp [onIdlePort_busy hP hp, exists_port]

theorem exec_command_not_refused {i : Instr} {p : Nat} (hi : i.source = .pcmd p) (s : State) (x : Refusal) :
    exec i s ≠ .refused x := by
  obtain ⟨body, e⟩ := exec_command_eq hi s
  rw [e]
  unfold onIdlePort
  split
  · exact nofun
  · split <;> exact nofun

/-- Settles O14: a command stops in its port test, a frame in its classification. -/
theorem execStopsExactlyWhere : Obligations.ExecStopsExactlyWhere := by
  intro i s
  rcases frame_or_command i with ⟨c, hi⟩ | ⟨p, hi⟩
  · rw [source_of_code hi]
    rcases exec_frame_cases hi s with ⟨x, hx, e⟩ | ⟨s1, t, h1, e⟩ <;> rw [e]
    · refine ⟨by simp, fun y => ?_⟩
      have same : Host.Outcome.fault (σ := State) (ρ := Refusal) x = .fault y ↔ classify s = .fault y := by rw [hx]
      rw [same, classify_eq_fault]
      simp
    · refine ⟨by simp, fun y => ?_⟩
      have answers : ¬ classify s = .fault y := by simp [h1]
      rw [classify_eq_fault] at answers
      simpa using answers
  · refine ⟨exec_command_not_refused hi s, fun x => ?_⟩
    rw [exec_command_eq_fault hi, hi]
    simp

end Sys2Proof.Machine
end

section
/-! What filter and dispatch mux decide for a frame, and what the delivery leaves (43_engine_rx.md R244-R253,
42_dispatch.md R204-R210).

`delivered x c s s1` is the state after the decision `x`; `decision c s s1` is the one a frame of code `c` gets. Every
statement on a frame is then one decision and the fields it leaves. -/

namespace Sys2Proof.Machine

/-! ## The fields each decision leaves -/

/-- The dispatch fault a decision reports, if any (42_dispatch.md R204, R208). -/
def Action.cause? : Action → Option Cause
  | .rangeFault => some .codeRange
  | .rejectMult => some .multLiteral
  | .drop => none
  | .noop => none
  | .wait _ _ => none
  | .setMult _ => none
  | .setInf => none
  | .halt => none

@[simp] theorem apply_rxframe (x : Action) (c : Byte) (s : State) : (x.apply c s).cnt.rxframe = s.cnt.rxframe := by
  cases x <;> rfl

@[simp] theorem apply_broken (x : Action) (c : Byte) (s : State) : (x.apply c s).cnt.broken = s.cnt.broken := by
  cases x <;> rfl

@[simp] theorem apply_badbundle (x : Action) (c : Byte) (s : State) :
    (x.apply c s).cnt.badbundle = s.cnt.badbundle := by
  cases x <;> rfl

/-- Only the filter counts a drop. -/
@[simp] theorem apply_rxdrop (x : Action) (c : Byte) (s : State) :
    (x.apply c s).cnt.rxdrop = if x = .drop then s.cnt.rxdrop + 1 else s.cnt.rxdrop := by
  cases x <;> rfl

theorem apply_noReport {x : Action} (hx : x.cause? = none) (c : Byte) (s : State) : NoReport s (x.apply c s) := by
  cases x <;> cases hx <;> exact ⟨rfl, rfl⟩

theorem apply_reported {x : Action} {k : Cause} (hx : x.cause? = some k) (c : Byte) (s : State) :
    Reported k c s (x.apply c s) := by
  cases x <;> cases hx <;> exact ⟨rfl, rfl⟩

/-! ## The state a frame is delivered in -/

/-- The decision on the frame with code `c`, whose classification left `s1`. -/
def decision (c : Byte) (s s1 : State) : Action := frameAction (theFrame c s) (classified s s1)

/-- The state after a decision on the frame with code `c`. -/
def delivered (x : Action) (c : Byte) (s s1 : State) : State :=
  x.apply c ((classified s s1).viewFrame (theFrame c s))

theorem completeFrame_delivered {c : Byte} {s t : State} :
    completeFrame c s = .next t ↔ ∃ s1, classify s = .next s1 ∧ t = delivered (decision c s s1) c s s1 :=
  completeFrame_next

/-- A frame instruction completes a frame, but for a top-level BUNDLE_HEADER. -/
theorem exec_eq_completeFrame {i : Instr} {c : Byte} (hi : i.code? = some c) {s : State}
    (hc : c = 2 → s.rx.rs = .fbody) : exec i s = completeFrame c s := by
  by_cases h2 : c = 2
  · exact exec_frame_fbody hi (hc h2)
  · exact exec_frame hi h2 s

/-- A frame that is ready completes: its classification answers, and it gets one decision. -/
theorem exec_delivered {i : Instr} {c : Byte} {s : State} (hi : i.code? = some c) (hc : c = 2 → s.rx.rs = .fbody)
    (hr : FrameReady s) :
    ∃ s1, classify s = .next s1 ∧ exec i s = .next (delivered (decision c s s1) c s s1) := by
  obtain ⟨s1, h1⟩ := classify_next hr.fits
  exact ⟨s1, h1, (exec_eq_completeFrame hi hc).trans (completeFrame_delivered.2 ⟨s1, h1, rfl⟩)⟩

/-- Delivery happens in the classified state: RXBUF and the count of broken frames as classification leaves them, the
fragment closed, and everything else as before. -/
theorem classified_eq {s s1 : State} (h : classify s = .next s1) :
    classified s s1 = { s with
      rxbuf := s1.rxbuf
      cnt := { s.cnt with broken := s.cnt.broken + brokenInc s }
      rx := if s.rx.rs = .fbody then fragmentClosed s else s.rx } := by
  have e := classify_frame h
  rw [classify_broken h] at e
  unfold classified
  split
  · rw [e]
    rfl
  · exact e

/-- The frame view of the delivered frame. -/
theorem viewFrame_theFrame (c : Byte) (s s1 : State) : (s1.viewFrame (theFrame c s)).view = deliveredView c s := by
  rw [viewFrame_view]
  unfold theFrame deliveredView
  split
  · have notFirst : decide (0 < s.rx.fidx) = (s.rx.fidx != 0) := by cases s.rx.fidx <;> simp
    simp [bundleFrame, notFirst]
  · simp [topFrame]

/-- What every delivery leaves, whatever the decision. -/
theorem frameDelivered (x : Action) (c : Byte) {s s1 : State} (h : classify s = .next s1) (hm : s.rxbuf.wf) :
    FrameDelivered c s (delivered x c s s1) := by
  have e := classified_eq h
  unfold delivered
  constructor
  case view => rw [apply_view, viewFrame_theFrame]
  case body => simpa [PaddedBody, e] using classify_padded h hm
  all_goals simp [e]

/-- Only EXIT touches the send side. -/
theorem delivered_sendSide {x : Action} (hx : x.halts = false) (c : Byte) {s s1 : State} (h : classify s = .next s1) :
    SameSendSide s (delivered x c s s1) := by
  obtain ⟨ports, tx⟩ := apply_send_side hx c ((classified s s1).viewFrame (theFrame c s))
  refine ⟨?_, tx.trans ?_, ports.trans ?_⟩
  · simp [delivered, hx, classified_eq h]
  · simp [classified_eq h]
  · simp [classified_eq h]

theorem delivered_noReport {x : Action} (hx : x.cause? = none) (c : Byte) {s s1 : State} (h : classify s = .next s1) :
    NoReport s (delivered x c s s1) := by
  obtain ⟨fail, count⟩ := apply_noReport hx c ((classified s s1).viewFrame (theFrame c s))
  exact ⟨fail.trans (by simp [classified_eq h]), count.trans (by simp [classified_eq h])⟩

theorem delivered_reported {x : Action} {k : Cause} (hx : x.cause? = some k) (c : Byte) {s s1 : State}
    (h : classify s = .next s1) : Reported k c s (delivered x c s s1) := by
  obtain ⟨fail, count⟩ := apply_reported hx c ((classified s s1).viewFrame (theFrame c s))
  exact ⟨fail, count.trans (by simp [classified_eq h])⟩

theorem delivered_rxdrop (x : Action) (c : Byte) {s s1 : State} (h : classify s = .next s1) :
    (delivered x c s s1).cnt.rxdrop = if x = .drop then s.cnt.rxdrop + 1 else s.cnt.rxdrop := by
  simp [delivered, classified_eq h]

theorem delivered_tmult (x : Action) (c : Byte) {s s1 : State} (h : classify s = .next s1) :
    (delivered x c s s1).tmult = x.nextTmult s.tmult := by
  simp [delivered, classified_eq h]

theorem delivered_disp (x : Action) (c : Byte) {s s1 : State} (h : classify s = .next s1) :
    (delivered x c s s1).disp = x.nextDisp c s.disp := by
  simp [delivered, classified_eq h]

theorem delivered_rs (x : Action) (c : Byte) {s s1 : State} (h : classify s = .next s1) :
    (delivered x c s s1).rx.rs = x.nextRs s.rx.rs := by
  have rs : (classified s s1).rx.rs = s.rx.rs := by
    rw [classified_eq h]
    split <;> rfl
  simp [delivered, rs]

/-! ## The decision -/

/-- The filter sees the frame's target and DEV_ADDR (43_engine_rx.md R252). -/
theorem accepts_theFrame {s s1 : State} (h : classify s = .next s1) (c : Byte) :
    accepts (classified s s1) (theFrame c s) = true ↔ FrameAccepted s := by
  have target : (theFrame c s).hdr.target = frameTarget s := by
    unfold theFrame frameTarget
    split <;> rfl
  simp [accepts, target, classified_eq h, FrameAccepted]

@[simp] theorem theFrame_code (c : Byte) (s : State) : (theFrame c s).code = c := by
  unfold theFrame
  split <;> rfl

theorem theFrame_bodylen (c : Byte) (s : State) : (theFrame c s).bodylen = reportedLen s := by
  unfold theFrame reportedLen bodyBase
  split
  · rfl
  · exact (Nat.zero_add _).symm

theorem classified_slot? {s s1 : State} (h : classify s = .next s1) (c : Nat) :
    (classified s s1).slot? c = s.slot? c := by
  simp [State.slot?, classified_eq h]

/-- Only code 255 has no slot. -/
theorem toNat_lt_nslot {c : Byte} (h : c ≠ 255) : c.toNat < nslot := by
  unfold nslot
  bv_omega

/-- A frame for another target is dropped (43_engine_rx.md R252). -/
theorem decision_filtered {s s1 : State} (h : classify s = .next s1) (hf : ¬ FrameAccepted s) (c : Byte) :
    decision c s s1 = .drop :=
  if_pos (Bool.eq_false_iff.2 (mt (accepts_theFrame h c).1 hf))

/-- A code without a slot is a range fault (42_dispatch.md R204). -/
theorem decision_noSlot {s s1 : State} (h : classify s = .next s1) (hf : FrameAccepted s) {c : Byte}
    (hs : s.slot? c.toNat = none) : decision c s s1 = .rangeFault := by
  simp [decision, frameAction, (accepts_theFrame h c).2 hf, classified_slot? h, hs]

/-- The slot of an accepted frame's code decides (42_dispatch.md R205). -/
theorem decision_slot {s s1 : State} (h : classify s = .next s1) (hf : FrameAccepted s) {c : Byte} {x : Slot}
    (hc : c.toNat < nslot) (hs : s.slots[c.toNat]? = some x) :
    decision c s s1 = slotAction (theFrame c s) (classified s s1) x := by
  simp [decision, frameAction, (accepts_theFrame h c).2 hf, classified_slot? h, slot?_lt hc, hs]

/-- The MULT handler's decision, from the literal in RXBUF after the padding (42_dispatch.md R208). -/
def multDecision (body : List Byte) : Action :=
  match parseMult body with
  | .value q => .setMult q
  | .inf => .setInf
  | .reject => .rejectMult

theorem slotAction_mult (c : Byte) (s s1 : State) :
    slotAction (theFrame c s) (classified s s1) .mult = multDecision (s1.rxBytes (reportedLen s)) := by
  have bytes : (classified s s1).rxBytes (reportedLen s) = s1.rxBytes (reportedLen s) := by
    unfold classified
    split <;> rfl
  rw [← bytes, ← theFrame_bodylen c s]
  rfl

/-- A delivery leaves RXBUF as classification does. -/
theorem delivered_rxBytes (x : Action) (c : Byte) {s s1 : State} (h : classify s = .next s1) (n : Nat) :
    (delivered x c s s1).rxBytes n = s1.rxBytes n := by
  have env : s1.env = s.env := (classify_rxFrame h).env
  unfold State.rxBytes State.rxByte
  simp [delivered, classified_eq h, env]

/-! ## The frames of each kind of slot -/

/-- Settles O16: the slot decides to wait for the text observer. -/
theorem textFrameWaitsForTheObserver : Obligations.TextFrameWaitsForTheObserver := by
  intro s hr hf hs
  obtain ⟨s1, h, e⟩ := exec_delivered (i := .text) (c := 1) rfl (absurd · (by decide)) hr
  rw [decision_slot h hf (c := 1) (by decide) hs] at e
  exact ⟨_, e, frameDelivered _ 1 h hr.buffer, delivered_rxdrop _ 1 h, delivered_noReport rfl 1 h,
    delivered_sendSide rfl 1 h, delivered_tmult _ 1 h, delivered_disp _ 1 h, delivered_rs _ 1 h⟩

/-- Settles O17: the slot decides by the literal that RXBUF holds after the padding. -/
theorem multFrameSetsTheMultiplier : Obligations.MultFrameSetsTheMultiplier := by
  intro s hr hf hs
  obtain ⟨s1, h, e⟩ := exec_delivered (i := .mult) (c := 3) rfl (absurd · (by decide)) hr
  rw [decision_slot h hf (c := 3) (by decide) hs, slotAction_mult] at e
  unfold multDecision at e
  cases hp : parseMult (s1.rxBytes (reportedLen s)) <;> rw [hp] at e <;>
    refine ⟨_, e, frameDelivered _ 3 h hr.buffer, delivered_rxdrop _ 3 h, delivered_sendSide rfl 3 h,
      delivered_disp _ 3 h, delivered_rs _ 3 h, ?_⟩ <;>
    rw [delivered_rxBytes _ 3 h, hp]
  case value q => exact .inl ⟨q, rfl, delivered_tmult _ 3 h, delivered_noReport rfl 3 h⟩
  case inf => exact .inr (.inl ⟨rfl, delivered_tmult _ 3 h, delivered_noReport rfl 3 h⟩)
  case reject => exact .inr (.inr ⟨rfl, delivered_tmult _ 3 h, delivered_reported rfl 3 h⟩)

/-- Settles O18: the slot decides to halt, and the abort visits every port. -/
theorem exitFrameHaltsAndAborts : Obligations.ExitFrameHaltsAndAborts := by
  intro s hr hf hs
  obtain ⟨s1, h, e⟩ := exec_delivered (i := .exit) (c := 5) rfl (absurd · (by decide)) hr
  rw [decision_slot h hf (c := 5) (by decide) hs] at e
  have tx : (classified s s1).tx = s.tx := by simp [classified_eq h]
  have ports : (classified s s1).ports = s.ports := by simp [classified_eq h]
  refine ⟨_, e, frameDelivered _ 5 h hr.buffer, delivered_rxdrop _ 5 h, delivered_noReport rfl 5 h,
    delivered_tmult _ 5 h, delivered_disp _ 5 h, delivered_rs _ 5 h, rfl, ?_, fun p => ?_⟩
  · change { (classified s s1).tx with ts := .idle } = _
    rw [tx]
  · change (((classified s s1).viewFrame (theFrame 5 s)).exitAbort).ports[p]? = _
    rw [exitAbort_getElem?, viewFrame_ports, viewFrame_tx, tx, ports]
    rfl

/-- Settles O19: the slot decides to do nothing. -/
theorem placeholderFrameDoesNothing : Obligations.PlaceholderFrameDoesNothing := by
  intro i c s hi hc hr hf hc255 hs
  obtain ⟨s1, h, e⟩ := exec_delivered hi hc hr
  rw [decision_slot h hf (toNat_lt_nslot hc255) hs] at e
  exact ⟨_, e, frameDelivered _ c h hr.buffer, delivered_rxdrop _ c h, delivered_noReport rfl c h,
    delivered_sendSide rfl c h, delivered_tmult _ c h, delivered_disp _ c h, delivered_rs _ c h⟩

/-- Settles O20: the slot decides to wait for its handler. -/
theorem boundUserFrameWaitsForItsHandler : Obligations.BoundUserFrameWaitsForItsHandler := by
  intro i c handler s hi hlo hhi hr hf hs
  have notBundle : c = 2 → s.rx.rs = .fbody := by
    rintro rfl
    exact absurd hlo (by decide)
  obtain ⟨s1, h, e⟩ := exec_delivered hi notBundle hr
  rw [decision_slot h hf (Nat.lt_succ_of_le hhi) hs] at e
  exact ⟨_, e, frameDelivered _ c h hr.buffer, delivered_rxdrop _ c h, delivered_noReport rfl c h,
    delivered_sendSide rfl c h, delivered_tmult _ c h, delivered_disp _ c h, delivered_rs _ c h⟩

/-- Settles O21: code 255 has no slot. -/
theorem code255FrameIsReported : Obligations.Code255FrameIsReported := by
  intro s hr hf
  obtain ⟨s1, h, e⟩ := exec_delivered (i := .code255) (c := 255) rfl (absurd · (by decide)) hr
  rw [decision_noSlot h hf (slot?_ge (by decide))] at e
  exact ⟨_, e, frameDelivered _ 255 h hr.buffer, delivered_rxdrop _ 255 h, delivered_reported rfl 255 h,
    delivered_sendSide rfl 255 h, delivered_tmult _ 255 h, delivered_disp _ 255 h, delivered_rs _ 255 h⟩

/-- Settles O22: the filter decides before any slot is looked at. -/
theorem filteredFrameIsDropped : Obligations.FilteredFrameIsDropped := by
  intro i c s hi hc hr hf
  obtain ⟨s1, h, e⟩ := exec_delivered hi hc hr
  rw [decision_filtered h hf] at e
  exact ⟨_, e, frameDelivered _ c h hr.buffer, delivered_rxdrop _ c h, delivered_noReport rfl c h,
    delivered_sendSide rfl c h, delivered_tmult _ c h, delivered_disp _ c h, delivered_rs _ c h⟩

end Sys2Proof.Machine
end

section
/-! Bundles and fragments (43_engine_rx.md section 4), the frame of the frame instructions, and what a slot table with its
reserved entries lets a frame do (42_dispatch.md R200, R204-R210). -/

namespace Sys2Proof.Machine

/-! ## Bundle headers and fragments -/

theorem isDigit_iff {b : Byte} : isDigit b = true ↔ 0x30 ≤ b.toNat ∧ b.toNat ≤ 0x39 := by simp [isDigit]

/-- A body of digits with a value in range holds that count (40_codec.md R150). -/
theorem parseCount_digits {body : List Byte} (hd : ∀ b ∈ body, isDigit b = true) (h1 : 1 ≤ decimal body)
    (h2 : decimal body ≤ 255) : parseCount body false = some (decimal body) := by
  cases hp : parseCount body false with
  | some n => rw [parseCount_some hp]
  | none =>
    rcases parseCount_eq_none.1 hp with h | h | ⟨b, hb, h⟩ | h | h
    · cases h
    · rw [h] at h1
      exact absurd h1 (by decide)
    · have := isDigit_iff.1 (hd b hb)
      omega
    · omega
    · omega

/-- A valid fragment count starts the bundle (43_engine_rx.md R246). -/
theorem startBundle_of_count {s t : State} {n : Nat} (h : classify s = .next t)
    (hn : parseCount (t.rxBytes s.rx.cur.len.toNat) (isBroken s) = some n) :
    startBundle s = .next { t with rx := { t.rx with
      top := s.rx.cur, nfrag := n, fidx := 0, boff := 0, rsum := 0, abrk := false, mism := false, fcode := 0,
      rs := .fhdr } } := by
  unfold startBundle
  rw [h, andThen_next, hn]

/-- Settles O23: the header message is whole, so classification changes nothing, and its body is a valid count. -/
theorem bundleHeaderStartsTheBundle : Obligations.BundleHeaderStartsTheBundle := by
  intro s hs hlen _ digits hlo hhi
  have whole : isBroken s = false := by simpa [isBroken] using hlen
  have kept : classify s = .next s := classify_eq_next.2 (.inl ⟨whole, rfl⟩)
  have count := parseCount_digits (fun b hb => isDigit_iff.2 (digits b hb)) hlo hhi
  rw [exec_bundleHeader hs, startBundle_of_count kept (by rw [whole]; exact count)]

/-- A fragment that is not the last completes no frame (43_engine_rx.md R248). -/
theorem completing_fragment {s : State} (hs : s.rx.rs = .fbody) (hn : s.rx.fidx + 1 ≠ s.rx.nfrag) :
    completing s = none := by
  unfold completing
  rw [hs]
  simp [hn]

/-- Settles O25: the classification cycle runs no instruction, and classification and bookkeeping are all there is. -/
theorem fragmentIsClosedAndNotDispatched : Obligations.FragmentIsClosedAndNotDispatched := by
  intro s inp hr hs ho hn
  obtain ⟨s1, h⟩ := classify_next hr.fits
  have runs : rxStep inp s = .next ((closeFragment s s1).setRs .fhdr) := by
    rw [rxStep_bodyOver (by rw [hs]; rfl) ho, classifyCycle, completing_fragment hs hn, endFragment, h, andThen_next]
  have padded := classify_padded h hr.buffer
  refine ⟨_, runs, padded, ?_⟩
  have e := classify_frame h
  rw [classify_broken h] at e
  rw [e]
  rfl

/-! ## The reserved slots -/

/-- A reserved slot's entry is that after reset. -/
theorem SlotsOk.reserved_entry {s : State} (h : SlotsOk s) {c : Nat} (hc : c < userLo) :
    s.slots[c]? = some (resetSlot c) := by
  rw [← List.getElem?_take_of_lt hc, h.reserved, List.getElem?_map, List.getElem?_range hc]
  rfl

/-- What an entry of the slot table can be: the placeholder, a reserved handler in its own slot, or a bound handler in a
user slot (42_dispatch.md R200, 10_state.md R42). -/
theorem SlotsOk.entry {s : State} (h : SlotsOk s) {c : Nat} {x : Slot} (hx : s.slot? c = some x) :
    x = .placeholder ∨ (c = 1 ∧ x = .text) ∨ (c = 3 ∧ x = .mult) ∨ (c = 5 ∧ x = .exit) ∨
      ∃ hid, x = .ext hid ∧ 32 ≤ c ∧ c ≤ 254 ∧ hid.toNat < s.params.nhandler := by
  have hc : c < nslot := by
    by_contra hge
    rw [slot?_ge (Nat.le_of_not_lt hge)] at hx
    cases hx
  rw [slot?_lt hc] at hx
  by_cases user : userLo ≤ c
  · have mem : x ∈ s.slots.drop userLo := by
      refine List.mem_iff_getElem?.2 ⟨c - userLo, ?_⟩
      rw [List.getElem?_drop, Nat.add_sub_cancel' user, hx]
    have legal := h.user x mem
    cases x with
    | placeholder => exact .inl rfl
    | ext hid => exact .inr (.inr (.inr (.inr ⟨hid, rfl, user, Nat.le_of_lt_succ hc, of_decide_eq_true legal⟩)))
    | text => cases legal
    | mult => cases legal
    | exit => cases legal
  · obtain rfl : resetSlot c = x := Option.some.inj ((h.reserved_entry (Nat.lt_of_not_le user)).symm.trans hx)
    unfold resetSlot
    split
    · exact .inr (.inl ⟨‹_›, rfl⟩)
    · split
      · exact .inr (.inr (.inl ⟨‹_›, rfl⟩))
      · split
        · exact .inr (.inr (.inr (.inl ⟨‹_›, rfl⟩)))
        · exact .inl rfl

/-- What a frame of code `c` can get decided where the reserved slots are as at reset. -/
inductive Decides (s : State) (c : Byte) : Action → Prop where
  | drop (h : ¬ FrameAccepted s) : Decides s c .drop
  | rangeFault (h : c = 255) : Decides s c .rangeFault
  | noop : Decides s c .noop
  | text (h : c = 1) : Decides s c (.wait .text 0)
  | ext (hid : Byte) (hlo : 32 ≤ c.toNat) (hhi : c.toNat ≤ 254) (h : hid.toNat < s.params.nhandler) :
      Decides s c (.wait .ext hid)
  | mult (h : c = 3) (ha : FrameAccepted s) (body : List Byte) : Decides s c (multDecision body)
  | halt (h : c = 5) (ha : FrameAccepted s) : Decides s c .halt

theorem decision_decides {s s1 : State} (h : classify s = .next s1) (hs : SlotsOk s) (c : Byte) :
    Decides s c (decision c s s1) := by
  by_cases ha : FrameAccepted s
  · by_cases hc : c = 255
    · rw [decision_noSlot h ha (slot?_ge (by rw [hc]; decide))]
      exact .rangeFault hc
    · have lt := toNat_lt_nslot hc
      obtain ⟨x, hx⟩ : ∃ x, s.slots[c.toNat]? = some x :=
        ⟨_, List.getElem?_eq_getElem (by rw [hs.length]; exact lt)⟩
      rw [decision_slot h ha lt hx]
      have code {n : Nat} (hn : n < 256) (e : c.toNat = n) : c = BitVec.ofNat 8 n := by
        rw [← e, BitVec.ofNat_toNat, BitVec.setWidth_eq]
      rcases hs.entry ((slot?_lt lt).trans hx) with rfl | ⟨e, rfl⟩ | ⟨e, rfl⟩ | ⟨e, rfl⟩ | ⟨hid, rfl, hlo, hhi, hh⟩
      · exact .noop
      · exact .text (code (by decide) e)
      · rw [slotAction_mult]
        exact .mult (code (by decide) e) ha _
      · exact .halt (code (by decide) e) ha
      · exact .ext hid hlo hhi hh
  · rw [decision_filtered h ha]
    exact .drop ha

/-- No literal reports but a rejected one, and none halts, drops or waits. -/
theorem multDecision_cases (body : List Byte) :
    (∃ q, multDecision body = .setMult q) ∨ multDecision body = .setInf ∨ multDecision body = .rejectMult := by
  unfold multDecision
  cases parseMult body with
  | value q => exact .inl ⟨q, rfl⟩
  | inf => exact .inr (.inl rfl)
  | reject => exact .inr (.inr rfl)

theorem Decides.halts {s : State} {c : Byte} {x : Action} (h : Decides s c x) (hx : x.halts = true) :
    c = 5 ∧ FrameAccepted s := by
  cases h
  case halt h ha => exact ⟨h, ha⟩
  case mult body =>
    rcases multDecision_cases body with ⟨q, e⟩ | e | e <;> rw [e] at hx <;> cases hx
  all_goals cases hx

theorem Decides.tmult {s : State} {c : Byte} {x : Action} (h : Decides s c x) (hc : c ≠ 3) (t : TMult) :
    x.nextTmult t = t := by
  cases h
  case mult h _ _ => exact absurd h hc
  all_goals rfl

theorem Decides.disp {s : State} {c : Byte} {x : Action} (h : Decides s c x) (h1 : c ≠ 1)
    (hu : c.toNat < 32 ∨ c = 255) (d : DispInfo) : x.nextDisp c d = d := by
  cases h
  case text h => exact absurd h h1
  case ext hlo hhi _ =>
    rcases hu with hu | rfl
    · exact absurd hlo (Nat.not_le.2 hu)
    · exact absurd hhi (by decide)
  case mult body => rcases multDecision_cases body with ⟨q, e⟩ | e | e <;> rw [e] <;> rfl
  all_goals rfl

theorem Decides.cause {s : State} {c : Byte} {x : Action} (h : Decides s c x) (h3 : c ≠ 3) (h255 : c ≠ 255) :
    x.cause? = none := by
  cases h
  case mult h _ _ => exact absurd h h3
  case rangeFault h => exact absurd h h255
  all_goals rfl

/-! ## The frame of the frame instructions -/

/-- A top-level BUNDLE_HEADER that answers leaves more than RXBUF, counters and the RX engine unchanged. -/
theorem startBundle_frame {s t : State} (h : startBundle s = .next t) :
    ∃ s1, classify s = .next s1 ∧ t = { s with rxbuf := s1.rxbuf, cnt := t.cnt, rx := t.rx } ∧
      t.cnt.hfail = s.cnt.hfail := by
  obtain ⟨s1, h1, h2⟩ := andThen_eq_next.1 h
  have e := classify_frame h1
  refine ⟨s1, h1, ?_⟩
  split at h2 <;> cases h2 <;> rw [e] <;> exact ⟨rfl, rfl⟩

/-- What a frame instruction that answers is: a delivery, or the start or discard of a bundle. -/
theorem exec_frame_next {i : Instr} {c : Byte} {s t : State} (hi : i.code? = some c) (h : exec i s = .next t) :
    (∃ s1, classify s = .next s1 ∧ t = delivered (decision c s s1) c s s1) ∨
      (c = 2 ∧ s.rx.rs ≠ .fbody ∧ startBundle s = .next t) := by
  by_cases hb : c = 2 → s.rx.rs = .fbody
  · rw [exec_eq_completeFrame hi hb] at h
    exact .inl (completeFrame_delivered.1 h)
  · obtain ⟨rfl, hs⟩ := Classical.not_imp.1 hb
    rw [eq_bundleHeader hi, exec_bundleHeader hs] at h
    exact .inr ⟨rfl, hs, h⟩

/-- Settles O26: a delivery leaves what its decision leaves, and the reserved slots bound the decision; a bundle's start
leaves yet more. -/
theorem frameTouchesOnlyItsOwnState : Obligations.FrameTouchesOnlyItsOwnState := by
  intro i c s t hi hs hm h
  have frame := exec_rxFrame hi h
  suffices rest : PaddedBody s t ∧ (c ≠ 3 → t.tmult = s.tmult) ∧ (c ≠ 5 → SameSendSide s t) ∧
      (c ≠ 1 → c.toNat < 32 ∨ c = 255 → t.disp = s.disp) ∧ (c ≠ 3 → c ≠ 255 → NoReport s t) by
    obtain ⟨padded, tmult, sendSide, disp, noReport⟩ := rest
    exact ⟨padded, frame.params, frame.cfgerr, frame.ackdrop, frame.devAddr, frame.bps, frame.chunk, frame.slots,
      frame.env, tmult, sendSide, disp, noReport⟩
  rcases exec_frame_next hi h with ⟨s1, h1, rfl⟩ | ⟨rfl, _, h2⟩
  · have decides := decision_decides h1 hs c
    refine ⟨(frameDelivered _ c h1 hm).body, fun h3 => ?_, fun h5 => ?_, fun hc hu => ?_, fun h3 h255 => ?_⟩
    · rw [delivered_tmult _ c h1, decides.tmult h3]
    · exact delivered_sendSide (Bool.eq_false_iff.2 fun hx => h5 (decides.halts hx).1) c h1
    · rw [delivered_disp _ c h1, decides.disp hc hu]
    · exact delivered_noReport (decides.cause h3 h255) c h1
  · obtain ⟨s1, h1, e, hfail⟩ := startBundle_frame h2
    refine ⟨?_, fun _ => ?_, fun _ => ?_, fun _ _ => ?_, fun _ _ => ⟨?_, hfail⟩⟩
    · have padded := classify_padded h1 hm
      rw [e]
      exact padded
    · rw [e]
    · rw [e]
      exact ⟨rfl, rfl, rfl⟩
    · rw [e]
    · rw [e]

end Sys2Proof.Machine
end

section
/-! The moves of the RX engine: everything its step can do (43_engine_rx.md R241-R256), and what follows for the whole
machine: only a channel fault ends the read task, and only an accepted EXIT frame halts the block. -/

namespace Sys2Proof.Machine

/-! ## The header -/

/-- A header byte is kept, or it is the fourth and completes the header (43_engine_rx.md R241, R242). -/
theorem takeHeaderByte_cases (b : Byte) (s : State) :
    (s.rx.hcnt < 3 ∧ ∃ b0 b1 b2, takeHeaderByte b s =
      { s with rx := { s.rx with hb0 := b0, hb1 := b1, hb2 := b2, hcnt := s.rx.hcnt + 1 } }) ∨
    takeHeaderByte b s = headerComplete b s := by
  unfold takeHeaderByte
  split
  · rename_i h
    exact .inl ⟨by omega, b, s.rx.hb1, s.rx.hb2, by rw [h]⟩
  · rename_i h
    exact .inl ⟨by omega, s.rx.hb0, b, s.rx.hb2, by rw [h]⟩
  · rename_i h
    exact .inl ⟨by omega, s.rx.hb0, s.rx.hb1, b, by rw [h]⟩
  · exact .inr rfl

/-! ## The moves -/

/-- The assembly state a bundle with `n` fragments starts with (43_engine_rx.md R246). -/
def bundleStarted (n : Nat) (s s1 : State) : State :=
  { s1 with rx := { s1.rx with
    top := s.rx.cur, nfrag := n, fidx := 0, boff := 0, rsum := 0, abrk := false, mism := false, fcode := 0,
    rs := .fhdr } }

/-- A discarded header message (43_engine_rx.md R247). -/
def bundleDiscarded (s1 : State) : State :=
  { s1 with cnt := { s1.cnt with badbundle := s1.cnt.badbundle + 1 } }.setRs .hdr

/-- The cycle reads: a header, or a body that is not over (43_engine_rx.md R255). -/
def Reading (s : State) : Prop := s.rx.rs.inHeader = true ∨ (s.rx.rs.inBody = true ∧ bodyOver s = false)

/-- What the RX engine's step can do. -/
inductive RxMove (inp : Input) (s : State) : State → Prop where
  | fault (hr : Reading s) (hf : inp.rxFault = true) : RxMove inp s (s.setRs .dead)
  | noByte (hs : s.rx.rs.inHeader = true) : RxMove inp s s
  | headerByte (hs : s.rx.rs.inHeader = true) : RxMove inp s (takeHeaderByte inp.rxData s)
  | bodyByte (hs : s.rx.rs.inBody = true) (ho : bodyOver s = false) (hb : bodyBase s + s.rx.bcnt < maxPayload) :
      RxMove inp s { s with
        rxbuf := memWrite s.rxbuf (bodyBase s + s.rx.bcnt) inp.rxData
        rx := { s.rx with bcnt := s.rx.bcnt + 1, e := s.rx.e + 1 } }
  | gap (hs : s.rx.rs.inBody = true) : RxMove inp s { s with rx := { s.rx with e := s.rx.e + 1 } }
  | frame (c : Byte) (s1 : State) (hc : completing s = some c) (h : classify s = .next s1) :
      RxMove inp s (delivered (decision c s s1) c s s1)
  | start (s1 : State) (n : Nat) (hc : completing s = some 2) (hs : s.rx.rs = .body) (h : classify s = .next s1)
      (hn : parseCount (s1.rxBytes s.rx.cur.len.toNat) (isBroken s) = some n) : RxMove inp s (bundleStarted n s s1)
  | discard (s1 : State) (hs : s.rx.rs = .body) (h : classify s = .next s1) : RxMove inp s (bundleDiscarded s1)
  | fragment (s1 : State) (hs : s.rx.rs = .fbody) (hn : s.rx.fidx + 1 ≠ s.rx.nfrag) (h : classify s = .next s1) :
      RxMove inp s ((closeFragment s s1).setRs .fhdr)
  | wait (hs : s.rx.rs = .dwait ∨ s.rx.rs = .dead) : RxMove inp s s

/-- The header cycle's move. -/
theorem headerCycle_move {inp : Input} {s : State} (hs : s.rx.rs.inHeader = true) :
    RxMove inp s (headerCycle inp s) := by
  unfold headerCycle
  split
  · exact .fault (.inl hs) ‹_›
  · split
    · exact .headerByte hs
    · exact .noByte hs

/-- The body cycle's move while the body is read. -/
theorem readBody_move {inp : Input} {s t : State} (hs : s.rx.rs.inBody = true) (ho : bodyOver s = false)
    (h : readBody inp s = .next t) : RxMove inp s t := by
  rcases readBody_eq_next.1 h with ⟨hf, rfl⟩ | ⟨_, _, hb, rfl⟩ | ⟨_, _, rfl⟩
  · exact .fault (.inr ⟨hs, ho⟩) hf
  · exact .bodyByte hs ho hb
  · exact .gap hs

/-- The classification cycle's move: a frame's instruction, or the end of a fragment. -/
theorem classifyCycle_move {inp : Input} {s t : State} (hs : s.rx.rs.inBody = true) (ho : bodyOver s = true)
    (h : classifyCycle s = .next t) : RxMove inp s t := by
  unfold classifyCycle at h
  split at h
  · rename_i c hc
    rcases exec_frame_next (code_decodeCode c) h with ⟨s1, h1, rfl⟩ | ⟨rfl, notFragment, h2⟩
    · exact .frame c s1 hc h1
    · have top : s.rx.rs = .body := by
        rcases (completing_some hc).2 with ⟨hb, _⟩ | ⟨hb, _⟩
        · exact hb
        · exact absurd hb notFragment
      obtain ⟨s1, h1, _⟩ := andThen_eq_next.1 h2
      cases hn : parseCount (s1.rxBytes s.rx.cur.len.toNat) (isBroken s) with
      | some n =>
        rw [startBundle_of_count h1 hn] at h2
        cases h2
        exact .start s1 n hc top h1 hn
      | none =>
        rw [startBundle_of_noCount h1 hn] at h2
        cases h2
        exact .discard s1 top h1
  · rename_i hc
    obtain ⟨s1, h1, h2⟩ := andThen_eq_next.1 h
    cases h2
    have fragment : s.rx.rs = .fbody ∧ s.rx.fidx + 1 ≠ s.rx.nfrag := by
      unfold completing at hc
      cases hr : s.rx.rs <;> simp_all [RxState.inBody]
    exact .fragment s1 fragment.1 fragment.2 h1

/-- The RX engine's step is one of its moves. -/
theorem rxStep_move {inp : Input} {s t : State} (h : rxStep inp s = .next t) : RxMove inp s t := by
  have body (hs : s.rx.rs.inBody = true) (hb : bodyCycle inp s = .next t) : RxMove inp s t := by
    unfold bodyCycle at hb
    split at hb
    · exact classifyCycle_move hs ‹_› hb
    · exact readBody_move hs (Bool.eq_false_iff.2 ‹_›) hb
  unfold rxStep at h
  split at h <;> rename_i hr
  · cases h
    exact headerCycle_move (by rw [hr]; rfl)
  · cases h
    exact headerCycle_move (by rw [hr]; rfl)
  · exact body (by rw [hr]; rfl) h
  · exact body (by rw [hr]; rfl) h
  · cases h
    exact .wait (.inl hr)
  · cases h
    exact .wait (.inr hr)

/-! ## The end of the read task -/

/-- No decision on a frame ends the read task (42_dispatch.md R213). -/
theorem nextRs_ne_dead {x : Action} {r : RxState} (hr : r ≠ .dead) : x.nextRs r ≠ .dead := by
  cases x
  case halt => exact hr
  all_goals exact nofun

/-- A header byte does not end the read task. -/
theorem takeHeaderByte_ne_dead {b : Byte} {s : State} (hs : s.rx.rs ≠ .dead) : (takeHeaderByte b s).rx.rs ≠ .dead := by
  rcases takeHeaderByte_cases b s with ⟨_, _, _, _, e⟩ | e <;> rw [e]
  · exact hs
  · unfold headerComplete
    simp only
    split <;> exact nofun

/-- The RX engine's step ends the read task by a channel fault in a cycle that reads, and not otherwise (R255). -/
theorem RxMove.dead {inp : Input} {s t : State} (h : RxMove inp s t) (hs : s.rx.rs ≠ .dead) (ht : t.rx.rs = .dead) :
    inp.rxFault = true ∧ Reading s := by
  cases h
  case fault hr hf => exact ⟨hf, hr⟩
  case noByte => exact absurd ht hs
  case headerByte => exact absurd ht (takeHeaderByte_ne_dead hs)
  case bodyByte => exact absurd ht hs
  case gap => exact absurd ht hs
  case frame c s1 _ h1 =>
    rw [delivered_rs _ c h1] at ht
    exact absurd ht (nextRs_ne_dead hs)
  case wait => exact absurd ht hs
  all_goals cases ht

/-- Settles O29: of a step's cases only an active cycle changes `rs` to DEAD, an acknowledgement leaves HDR, and the
engine's own moves do it by a channel fault. -/
theorem onlyAChannelFaultEndsTheReadTask : Obligations.OnlyAChannelFaultEndsTheReadTask := by
  intro s t hs ht hd
  rcases step_eq_next.1 ht with ⟨_, rfl⟩ | ⟨_, _, rfl⟩ | ⟨hrst, hh, h, a, r, _, _, h3, rfl⟩
  · cases hd
  · exact absurd hd hs
  · change (joinAgents s a r).rx.rs = .dead at hd
    rw [joinAgents_rx] at hd
    obtain ⟨u, hu, e⟩ := andThen_eq_next.1 h3
    cases e
    split at hd
    · rw [ackDispatch_rx] at hd
      cases hd
    · obtain ⟨hf, hr⟩ := (rxStep_move hu).dead hs hd
      exact ⟨hf, hrst, hh, hr⟩

/-! ## HALTED -/

@[simp] theorem delivered_halted (x : Action) (c : Byte) {s s1 : State} (h : classify s = .next s1) :
    (delivered x c s s1).halted = (x.halts || s.halted) := by
  simp [delivered, classified_eq h]

@[simp] theorem takeHeaderByte_halted (b : Byte) (s : State) : (takeHeaderByte b s).halted = s.halted := by
  rcases takeHeaderByte_cases b s with ⟨_, _, _, _, e⟩ | e <;> rw [e]
  rfl

theorem classify_halted {s s1 : State} (h : classify s = .next s1) : s1.halted = s.halted := by
  rw [classify_frame h]

/-- The RX engine's step halts the block by an accepted frame with code 5 and not otherwise (42_dispatch.md R209). -/
theorem RxMove.halts {inp : Input} {s t : State} (h : RxMove inp s t) (hs : SlotsOk s) (hh : s.halted = false)
    (ht : t.halted = true) : completing s = some 5 ∧ FrameAccepted s := by
  have kept {s1 : State} (h1 : classify s = .next s1) (hx : s1.halted = true) : False := by
    rw [classify_halted h1, hh] at hx
    cases hx
  cases h
  case frame c s1 hc h1 =>
    rw [delivered_halted _ c h1, hh, Bool.or_false] at ht
    obtain ⟨rfl, ha⟩ := (decision_decides h1 hs c).halts ht
    exact ⟨hc, ha⟩
  case headerByte =>
    rw [takeHeaderByte_halted, hh] at ht
    cases ht
  case start s1 n _ _ h1 _ => exact (kept h1 ht).elim
  case discard s1 _ h1 => exact (kept h1 ht).elim
  case fragment s1 _ _ h1 => exact (kept h1 ht).elim
  all_goals exact absurd ht (by simp [hh])

/-- Neither the host bus nor the TX engine halts the block. -/
theorem agents_halted {inp : Input} {s h a : State} (h1 : hostCycle inp s = .next h) (h2 : txCycle inp s h = .next a) :
    a.halted = s.halted := by
  rw [txCycle_frame h2, hostCycle_frame h1]

/-- The RX engine's part of a cycle halts the block exactly where its own step does. -/
theorem rxCycle_halted {inp : Input} {s u r : State} (hu : rxStep inp s = .next u) (h : rxCycle inp s = .next r) :
    r.halted = u.halted := by
  rw [rxCycle, hu, andThen_next] at h
  cases h
  split
  · exact ackDispatch_halted _ _
  · rfl

/-- Settles O30: a step halts the block where the RX engine's move does. -/
theorem onlyAnExitFrameHalts : Obligations.OnlyAnExitFrameHalts := by
  intro s t hs hh ht hx
  rcases step_eq_next.1 ht with ⟨_, rfl⟩ | ⟨_, hh', _⟩ | ⟨_, _, h, a, r, h1, h2, h3, rfl⟩
  · cases hx
  · rw [hh] at hh'
    cases hh'
  · change (joinAgents s a r).halted = true at hx
    obtain ⟨u, hu, _⟩ := andThen_eq_next.1 h3
    rw [joinAgents_halted ((agents_halted h1 h2).trans hh), rxCycle_halted hu h3] at hx
    obtain ⟨hc, ha⟩ := (rxStep_move hu).halts hs hh hx
    obtain ⟨ended, which⟩ := completing_some hc
    refine ⟨ended, ha, ?_⟩
    rcases which with ⟨hr, hcode⟩ | ⟨hr, hn, hcode⟩
    · exact .inl ⟨hr, hcode.symm⟩
    · exact .inr ⟨hr, hn, hcode.symm⟩

end Sys2Proof.Machine
end

section
/-! The TX engine: the grant (44_engine_tx.md R283), the SEND cycle (41_writer.md R182, R183, R186), and the moves of the
engine, everything its part of a cycle can do. -/

namespace Sys2Proof.Machine

/-! ## The grant -/

/-- The arbiter grants no port exactly where none waits. -/
theorem nextGrant_eq_none {s : State} (h : ∀ p < s.params.nport, s.pst p ≠ .waitlock) : nextGrant s = none := by
  cases hg : nextGrant s with
  | none => rfl
  | some p =>
    obtain ⟨hp, waits⟩ := nextGrant_some hg
    exact absurd waits (h p hp)

/-- The arbiter grants the first waiting port in its order (44_engine_tx.md R283). -/
theorem nextGrant_first {s : State} {k : Nat} (hk : k < s.params.nport)
    (before : ∀ j < k, s.pst ((s.tx.rr + 1 + j) % s.params.nport) ≠ .waitlock)
    (waits : s.pst ((s.tx.rr + 1 + k) % s.params.nport) = .waitlock) :
    nextGrant s = some ((s.tx.rr + 1 + k) % s.params.nport) := by
  unfold nextGrant grantOrder
  rw [List.find?_map, Option.map_eq_some_iff]
  refine ⟨k, ?_, rfl⟩
  rw [List.find?_range_eq_some]
  simpa [hk, waits] using before

/-- The TX engine after the grant of port `p`. -/
def grantedTx (s : State) (p : Nat) : TxEngine :=
  { s.tx with ts := .send, gp := p, rr := p, total := s.streamLen p, pos := 0, csize := s.chunk.toNat, cpos := 0 }

/-- The state `h` with the lock granted to port `p` as the state `s` before the cycle says. -/
def grantPort (s h : State) (p : Nat) : State :=
  { h with tx := grantedTx s p }.updPort p fun P => { P with pst := .active }

theorem grantCycle_none {s : State} (h : nextGrant s = none) (t : State) : grantCycle s t = t := by
  unfold grantCycle
  rw [h]

theorem grantCycle_some {s : State} {p : Nat} (h : nextGrant s = some p) (t : State) :
    grantCycle s t = grantPort s t p := by
  unfold grantCycle
  rw [h]
  rfl

theorem txCycle_idle {s : State} (h : s.tx.ts = .idle) (inp : Input) (t : State) :
    txCycle inp s t = .next (grantCycle s t) := by
  rw [txCycle, h]

theorem txCycle_send {s : State} (h : s.tx.ts = .send) (inp : Input) (t : State) :
    txCycle inp s t = sendCycle inp s t := by
  rw [txCycle, h]

/-- Settles O45: the arbiter finds no port, or the first waiting one in its order. -/
theorem grantIsRoundRobin : Obligations.GrantIsRoundRobin := by
  intro s h inp hs _
  rw [txCycle_idle hs]
  refine ⟨by simp [txOffer, hs], fun none => ?_, fun k hk before waits P hP => ?_⟩
  · rw [grantCycle_none (nextGrant_eq_none none)]
  · rw [grantCycle_some (nextGrant_first hk before waits)]
    exact congrArg Host.Outcome.next (updPort_eq_withPort (s := { h with tx := grantedTx s _ }) hP _)

/-! ## The SEND cycle -/

/-- The end of a send replaces the granted port. -/
theorem endSend_withPort {s h : State} {P : Port} (hP : h.ports[s.tx.gp]? = some P) (e : ErrCode) (r : Nat) :
    endSend s h e r = { h with
      tx := { s.tx with ts := .idle }
      ports := h.ports.set s.tx.gp { P with pst := .idle, done := true, err := e, result := BitVec.ofNat 32 r } } :=
  updPort_eq_withPort (s := { h with tx := { s.tx with ts := .idle } }) hP _

/-- Settles O46: the write failure, the transfer with or without the end of a chunk, and the wait for the channel. -/
theorem sendCycleMovesOneByte : Obligations.SendCycleMovesOneByte := by
  intro s h inp P hs hpos _ hP
  refine ⟨by simp [txOffer, hs], ?_⟩
  rw [txCycle_send hs, sendCycle, if_neg (Nat.not_le.2 hpos), endSend_withPort hP]
  cases inp.txFault with
  | true => rfl
  | false =>
    cases inp.txReady with
    | false => rfl
    | true =>
      unfold txAdvance
      by_cases hend : s.tx.cpos + 1 = s.tx.csize ∨ s.tx.pos + 1 = s.tx.total <;> simp [hend]

/-! ## The moves -/

/-- What the TX engine's part of a cycle can do, from the state `s` the cycle starts in to over the state `h` its bus
write leaves. -/
inductive TxMove (inp : Input) (s h : State) : State → Prop where
  | noGrant (hs : s.tx.ts = .idle) : TxMove inp s h h
  | grant (p : Nat) (hs : s.tx.ts = .idle) (hp : p < s.params.nport) (hw : s.pst p = .waitlock) :
      TxMove inp s h (grantPort s h p)
  | fail (hs : s.tx.ts = .send) (hf : inp.txFault = true) : TxMove inp s h (endSend s h .txFault s.tx.pos)
  | transfer (hs : s.tx.ts = .send) (hpos : s.tx.pos < s.tx.total) (hf : inp.txFault = false)
      (hr : inp.txReady = true) : TxMove inp s h { h with tx := txAdvance s }
  | stall (hs : s.tx.ts = .send) (hf : inp.txFault = false) (hr : inp.txReady = false) : TxMove inp s h h
  | complete (hs : s.tx.ts = .pace) (hpr : s.tx.pr = 1) (hpos : s.tx.pos = s.tx.total) :
      TxMove inp s h (endSend s h .ok s.tx.total)
  | nextChunk (hs : s.tx.ts = .pace) (hpos : s.tx.pos ≠ s.tx.total) :
      TxMove inp s h { h with tx := { s.tx with ts := .send } }
  | count (hs : s.tx.ts = .pace) (hpr : s.tx.pr ≠ 1) :
      TxMove inp s h { h with tx := { s.tx with pr := s.tx.pr - 1 } }

/-- The TX engine's part of a cycle is one of its moves. -/
theorem txCycle_move {inp : Input} {s h a : State} (hx : txCycle inp s h = .next a) : TxMove inp s h a := by
  unfold txCycle at hx
  split at hx <;> rename_i hs
  · cases hx
    cases hg : nextGrant s with
    | none =>
      rw [grantCycle_none hg]
      exact .noGrant hs
    | some p =>
      rw [grantCycle_some hg]
      obtain ⟨hp, hw⟩ := nextGrant_some hg
      exact .grant p hs hp hw
  · obtain ⟨hpos, ⟨hf, rfl⟩ | ⟨hf, hr, rfl⟩ | ⟨hf, hr, rfl⟩⟩ := sendCycle_eq_next.1 hx
    · exact .fail hs hf
    · exact .transfer hs hpos hf hr
    · exact .stall hs hf hr
  · cases hx
    unfold paceCycle
    split
    · split
      · exact .complete hs ‹_› ‹_›
      · exact .nextChunk hs ‹_›
    · exact .count hs ‹_›

end Sys2Proof.Machine
end

section
/-! What the host bus does to ports, slots and configuration (45_host_interface.md sections 1 and 2), as far as the
invariant speaks of them: a busy port keeps its state and send context, an idle one may accept a send of legal length, a
user slot may be set to a legal entry, and BPS and CHUNK stay nonzero. -/

namespace Sys2Proof.Machine

/-! ## The moves of the host bus -/

/-- The input presents a full-word write. -/
def FullWrite (inp : Input) : Prop := inp.busValid = true ∧ inp.busWrite = true ∧ inp.busWstrb = 0b1111

/-- What the host bus's part of a cycle can do: a full-word write of a register, a write of a TXBUF window, or nothing. -/
inductive HostMove (inp : Input) (s : State) : State → Prop where
  | none : HostMove inp s s
  | glob (r : GlobalReg) (hw : FullWrite inp) (ht : Input.target inp s = .glob r) :
      HostMove inp s (writeGlobal inp.busWdata s r)
  | port (p : Nat) (r : PortReg) {t : State} (hw : FullWrite inp) (ht : Input.target inp s = .port p r)
      (h : writePort p inp.busWdata s r = .next t) : HostMove inp s t
  | txbuf (p o : Nat) (ht : Input.target inp s = .txbuf p o) :
      HostMove inp s (writeTxbuf p o inp.busWdata inp.busWstrb s)

/-- The host bus's part of a cycle is one of its moves. -/
theorem hostCycle_move {inp : Input} {s h : State} (hx : hostCycle inp s = .next h) : HostMove inp s h := by
  unfold hostCycle at hx
  split at hx
  case isFalse => cases hx; exact .none
  case isTrue present =>
    have full (hs : fullStrobe inp.busWstrb = true) : FullWrite inp := ⟨present.1, present.2, by simpa [fullStrobe] using hs⟩
    cases htgt : Input.target inp s <;> rw [htgt] at hx <;> simp only [busWrite] at hx
    case glob r =>
      cases hx
      split
      · exact .glob r (full ‹_›) htgt
      · exact .none
    case port p r =>
      split at hx
      · exact .port p r (full ‹_›) htgt hx
      · cases hx; exact .none
    case txbuf p o => cases hx; exact .txbuf p o htgt
    all_goals cases hx; exact .none

/-! ## Ports -/

/-- What the host bus may do to a port, as far as the TX engine sees it. -/
structure HostPort (P Q : Port) : Prop where
  busy : P.pst ≠ .idle → Q.pst = P.pst ∧ Q.sc = P.sc
  idle : P.pst = .idle → Q.pst = .idle ∨ (Q.pst = .waitlock ∧ Q.sc.len ≤ Q.sc.kind.maxLen)
  txbuf : P.txbuf.wf → Q.txbuf.wf

theorem HostPort.of_same {P Q : Port} (hp : Q.pst = P.pst) (hs : Q.sc = P.sc) (hb : Q.txbuf = P.txbuf) :
    HostPort P Q :=
  ⟨fun _ => ⟨hp, hs⟩, fun h => .inl (hp.trans h), fun h => hb ▸ h⟩

/-- An accepted send of legal length on an idle port. -/
theorem HostPort.sending {P : Port} {k : SendKind} (hp : P.pst = .idle) (hl : P.txLen.toNat ≤ k.maxLen) :
    HostPort P (sendingPort P k) :=
  ⟨fun h => absurd hp h, fun _ => .inr ⟨rfl, hl⟩, id⟩

/-- A send command on an idle port fails its checks or accepts a send of legal length. -/
theorem issueSend_hostPort {s t : State} {p : Nat} {P : Port} {k : SendKind} (h : s.ports[p]? = some P)
    (hp : P.pst = .idle) (ht : issueSend k k.maxLen p s = .next t) :
    ∃ Q, t.ports = s.ports.set p Q ∧ HostPort P Q := by
  rw [issueSend_idle h hp] at ht
  cases ht
  refine ⟨_, rfl, ?_⟩
  split
  · exact .of_same rfl rfl rfl
  · split
    · exact .of_same rfl rfl rfl
    · exact .sending hp (Nat.le_of_not_lt ‹_›)

/-- What a command does to its port. -/
theorem exec_command_hostPort {i : Instr} {p : Nat} {s t : State} (hi : i.source = .pcmd p) (h : exec i s = .next t) :
    ∃ P Q, s.ports[p]? = some P ∧ t.ports = s.ports.set p Q ∧ HostPort P Q := by
  obtain ⟨P, f, hP, hports, _⟩ := exec_command_ports hi h
  refine ⟨P, ?_⟩
  suffices ∃ Q, t.ports = s.ports.set p Q ∧ HostPort P Q from this.imp fun Q hQ => ⟨hP, hQ⟩
  by_cases hp : P.pst = .idle
  · cases i <;> simp only [Instr.source, reduceCtorEq, Source.pcmd.injEq] at hi <;> subst hi
    case sendMsg => exact issueSend_hostPort (k := .msg) hP hp h
    case sendBundle => exact issueSend_hostPort (k := .bundle) hP hp h
    case bind =>
      rw [bindChecksThenBindsTheSlot s _ P hP hp] at h
      cases h
      split
      · exact ⟨_, rfl, .of_same rfl rfl rfl⟩
      · split
        · exact ⟨_, rfl, .of_same rfl rfl rfl⟩
        · split <;> exact ⟨_, rfl, .of_same rfl rfl rfl⟩
    case unbind =>
      rw [unbindChecksThenEmptiesTheSlot s _ P hP hp] at h
      cases h
      split
      · exact ⟨_, rfl, .of_same rfl rfl rfl⟩
      · split <;> exact ⟨_, rfl, .of_same rfl rfl rfl⟩
    case isUsed =>
      rw [isUsedReportsTheSlot s _ P hP hp] at h
      cases h
      refine ⟨_, rfl, ?_⟩
      split <;> exact .of_same rfl rfl rfl
    case badCommand =>
      change onIdlePort _ s _ = _ at h
      rw [onIdlePort_idle hP hp, failCommand_eq_withPort hP] at h
      cases h
      exact ⟨_, rfl, .of_same rfl rfl rfl⟩
  · rw [busyPortDropsEveryCommand s p P i hi hP hp] at h
    cases h
    exact ⟨_, rfl, .of_same rfl rfl rfl⟩

/-- No global register is a port. -/
theorem writeGlobal_ports (w : Word) (s : State) (r : GlobalReg) : (writeGlobal w s r).ports = s.ports := by
  cases r
  case bps | chunk | dispAck =>
    rw [writeGlobal]
    split <;> rfl
  all_goals rfl

/-- What a register write does to the written port. -/
theorem writePort_hostPort {p : Nat} {w : Word} {s t : State} {r : PortReg} (h : writePort p w s r = .next t) :
    t.ports = s.ports ∨ ∃ f, t.ports = s.ports.modify p f ∧ ∀ P, s.ports[p]? = some P → HostPort P (f P) := by
  cases r
  case pcmd =>
    obtain ⟨P, Q, hP, e, hQ⟩ := exec_command_hostPort (decodeCommand_source p w) h
    refine .inr ⟨fun _ => Q, ?_, fun P' hP' => ?_⟩
    · rw [e, ← show (s.withPort p Q).ports = s.ports.set p Q from rfl, ← updPort_eq_withPort hP fun _ => Q]
      rfl
    · obtain rfl := Option.some.inj (hP.symm.trans hP')
      exact hQ
  case presult =>
    cases h
    exact .inl rfl
  all_goals
    cases h
    exact .inr ⟨_, rfl, fun _ _ => .of_same rfl rfl rfl⟩

/-- The host bus's part of a cycle leaves the ports, or writes one within `HostPort`. -/
theorem hostCycle_ports {inp : Input} {s h : State} (hx : hostCycle inp s = .next h) :
    h.ports = s.ports ∨
      ∃ p f, h.ports = s.ports.modify p f ∧ ∀ P, s.ports[p]? = some P → HostPort P (f P) := by
  cases hostCycle_move hx
  case none => exact .inl rfl
  case glob r _ _ => exact .inl (writeGlobal_ports _ s r)
  case port p r _ _ hw => exact (writePort_hostPort hw).imp id fun ⟨f, hf⟩ => ⟨p, f, hf⟩
  case txbuf p o _ =>
    refine .inr ⟨p, _, rfl, fun P _ => ?_⟩
    split
    · exact ⟨fun _ => ⟨rfl, rfl⟩, .inl, fun hm => writeLanes_wf hm _ _ _⟩
    · exact .of_same rfl rfl rfl

/-- What the host bus's part of a cycle does to each port. -/
theorem hostCycle_port {inp : Input} {s h : State} (hx : hostCycle inp s = .next h) {p : Nat} {P : Port}
    (hP : s.ports[p]? = some P) : ∃ Q, h.ports[p]? = some Q ∧ HostPort P Q := by
  have same : HostPort P P := .of_same rfl rfl rfl
  rcases hostCycle_ports hx with e | ⟨q, f, e, hf⟩ <;> rw [e]
  · exact ⟨P, hP, same⟩
  · by_cases hq : q = p
    · subst hq
      exact ⟨f P, by rw [List.getElem?_modify_eq, hP]; rfl, hf P hP⟩
    · exact ⟨P, by rw [List.getElem?_modify_ne f _ hq, hP], same⟩

/-- The host bus adds no port and removes none. -/
theorem hostCycle_length {inp : Input} {s h : State} (hx : hostCycle inp s = .next h) :
    h.ports.length = s.ports.length := by
  rcases hostCycle_ports hx with e | ⟨_, _, e, _⟩ <;> rw [e]
  exact List.length_modify _ _ _

/-- A port after the host bus's part of a cycle comes from one before it. -/
theorem hostCycle_port_from {inp : Input} {s h : State} (hx : hostCycle inp s = .next h) {p : Nat} {Q : Port}
    (hQ : h.ports[p]? = some Q) : ∃ P, s.ports[p]? = some P ∧ HostPort P Q := by
  obtain ⟨hp, _⟩ := List.getElem?_eq_some_iff.1 hQ
  rw [hostCycle_length hx] at hp
  obtain ⟨Q', hQ', hh⟩ := hostCycle_port hx (List.getElem?_eq_getElem hp)
  obtain rfl := Option.some.inj (hQ.symm.trans hQ')
  exact ⟨_, List.getElem?_eq_getElem hp, hh⟩

/-! ## Slots -/

/-- A command sets at most one slot, a user slot, to a legal entry (42_dispatch.md R201, R202). -/
theorem exec_command_slots_legal {i : Instr} {p : Nat} {s t : State} (hi : i.source = .pcmd p)
    (h : exec i s = .next t) :
    t.slots = s.slots ∨
      ∃ c x, userLo ≤ c ∧ x.userLegal s.params.nhandler = true ∧ t.slots = s.slots.set c x := by
  rcases exec_command_slots hi h with e | ⟨P, _, rfl | rfl, hP, hp, user, _⟩
  · exact .inl e
  · rw [bindChecksThenBindsTheSlot s p P hP hp] at h
    cases h
    split
    · exact .inl rfl
    · split
      · exact .inl rfl
      · rename_i handler
        split
        · exact .inl rfl
        · have legal : (P.parg1.setWidth 8).toNat < s.params.nhandler := by
            rw [BitVec.toNat_setWidth]
            exact Nat.lt_of_le_of_lt (Nat.mod_le _ _) (Nat.lt_of_not_le handler)
          exact .inr ⟨P.codeArg, .ext _, (userCode_iff.1 user).1, decide_eq_true legal, rfl⟩
  · rw [unbindChecksThenEmptiesTheSlot s p P hP hp] at h
    cases h
    split
    · exact .inl rfl
    · split
      · exact .inl rfl
      · exact .inr ⟨P.codeArg, _, (userCode_iff.1 user).1, rfl, rfl⟩

/-- The slot table keeps its form when a user slot is set to a legal entry. -/
theorem SlotsOk.set {s t : State} (h : SlotsOk s) (hp : t.params = s.params) {c : Nat} {x : Slot} (hc : userLo ≤ c)
    (hx : x.userLegal s.params.nhandler = true) (ht : t.slots = s.slots.set c x) : SlotsOk t where
  length := by rw [ht, List.length_set, h.length]
  reserved := by rw [ht, List.take_set_of_le hc, h.reserved]
  user := by
    intro y hy
    rw [hp]
    rw [ht, List.drop_set, if_neg (Nat.not_lt.2 hc)] at hy
    rcases List.mem_or_eq_of_mem_set hy with hy | rfl
    · exact h.user y hy
    · exact hx

theorem SlotsOk.congr {s t : State} (h : SlotsOk s) (hp : t.params = s.params) (ht : t.slots = s.slots) : SlotsOk t :=
  ⟨by rw [ht, h.length], by rw [ht, h.reserved], by rw [ht, hp]; exact h.user⟩

/-- The host bus keeps the form of the slot table. -/
theorem SlotsOk.host {inp : Input} {s h : State} (hs : SlotsOk s) (hx : hostCycle inp s = .next h) : SlotsOk h := by
  have params : h.params = s.params := by rw [hostCycle_frame hx]
  rcases hostCycle_slots hx with e | ⟨p, _, he⟩
  · exact hs.congr params e
  · rcases exec_command_slots_legal (decodeCommand_source p _) he with e | ⟨c, x, hc, legal, e⟩
    · exact hs.congr params e
    · exact hs.set params hc legal e

/-! ## Configuration -/

/-- A zero is never stored in BPS or CHUNK (45_host_interface.md R317, R318). -/
theorem writeGlobal_config {w : Word} {s : State} (hb : s.bps ≠ 0) (hc : s.chunk ≠ 0) (r : GlobalReg) :
    (writeGlobal w s r).bps ≠ 0 ∧ (writeGlobal w s r).chunk ≠ 0 := by
  cases r
  case bps =>
    rw [writeGlobal]
    split
    · exact ⟨hb, hc⟩
    · exact ⟨‹_›, hc⟩
  case chunk =>
    rw [writeGlobal]
    split
    · exact ⟨hb, hc⟩
    · exact ⟨hb, ‹_›⟩
  case dispAck =>
    rw [writeGlobal]
    split <;> exact ⟨hb, hc⟩
  all_goals exact ⟨hb, hc⟩

/-- A port register write stores in no configuration register. -/
theorem writePort_config {p : Nat} {w : Word} {s t : State} {r : PortReg} (h : writePort p w s r = .next t) :
    t.bps = s.bps ∧ t.chunk = s.chunk := by
  cases r
  case pcmd =>
    rw [exec_command_frame (decodeCommand_source p w) h]
    exact ⟨rfl, rfl⟩
  all_goals
    cases h
    exact ⟨rfl, rfl⟩

/-- The host bus keeps BPS and CHUNK nonzero. -/
theorem hostCycle_config {inp : Input} {s h : State} (hb : s.bps ≠ 0) (hc : s.chunk ≠ 0)
    (hx : hostCycle inp s = .next h) : h.bps ≠ 0 ∧ h.chunk ≠ 0 := by
  cases hostCycle_move hx
  case none => exact ⟨hb, hc⟩
  case glob r _ _ => exact writeGlobal_config hb hc r
  case port hw =>
    obtain ⟨bps, chunk⟩ := writePort_config hw
    rw [bps, chunk]
    exact ⟨hb, hc⟩
  case txbuf => exact ⟨hb, hc⟩

end Sys2Proof.Machine
end

section
/-! The invariant of the TX engine and the ports (10_state.md R43, R44, 44_engine_tx.md R287), kept by the host bus, by
every move of the TX engine, and by the EXIT abort. -/

namespace Sys2Proof.Machine

/-! ## Port states -/

theorem pst_of_port {s : State} {p : Nat} {P : Port} (h : s.ports[p]? = some P) : s.pst p = P.pst := by
  simp [State.pst, h]

theorem streamLen_of_port {s : State} {p : Nat} {P : Port} (h : s.ports[p]? = some P) :
    s.streamLen p = Machine.streamLen P.sc := by
  simp [State.streamLen, h]

/-- A port that is not idle exists. -/
theorem port_of_busy {s : State} {p : Nat} (h : s.pst p ≠ .idle) : ∃ P, s.ports[p]? = some P ∧ P.pst = s.pst p := by
  cases hP : s.ports[p]? with
  | none => simp [State.pst, hP] at h
  | some P => exact ⟨P, rfl, (pst_of_port hP).symm⟩

theorem pst_updPort_ne {s : State} {p q : Nat} (h : q ≠ p) (f : Port → Port) : (s.updPort p f).pst q = s.pst q := by
  unfold State.pst
  rw [updPort_getElem?, if_neg (Ne.symm h)]

theorem pst_updPort_same {s : State} {p : Nat} (hp : p < s.ports.length) {x : PortState} {f : Port → Port}
    (hf : ∀ P, (f P).pst = x) : (s.updPort p f).pst p = x := by
  unfold State.pst
  rw [updPort_getElem?, if_pos rfl, List.getElem?_eq_getElem hp]
  exact hf _

theorem streamLen_updPort {s : State} {p : Nat} {f : Port → Port} (hf : ∀ P, (f P).sc = P.sc) (q : Nat) :
    (s.updPort p f).streamLen q = s.streamLen q := by
  unfold State.streamLen
  rw [updPort_getElem?]
  split
  · simp [Function.comp_def, hf]
  · rfl

theorem mem_updPort {s : State} {p : Nat} {f : Port → Port} {Q : Port} (h : Q ∈ (s.updPort p f).ports) :
    Q ∈ s.ports ∨ ∃ P, s.ports[p]? = some P ∧ Q = f P := by
  obtain ⟨q, hq⟩ := List.mem_iff_getElem?.1 h
  rw [updPort_getElem?] at hq
  split at hq
  · rename_i e
    obtain ⟨P, hP, rfl⟩ := Option.map_eq_some_iff.1 hq
    exact .inr ⟨P, by rw [e, hP], rfl⟩
  · exact .inl (List.mem_of_getElem? hq)

/-- A stream holds at least its first header. -/
theorem streamLen_pos (sc : SendCtx) : 0 < Machine.streamLen sc := by
  unfold Machine.streamLen
  split <;> omega

/-! ## The host bus -/

/-- The host bus leaves a busy port's state and stream. -/
theorem hostCycle_busy {inp : Input} {s h : State} (hx : hostCycle inp s = .next h) {p : Nat} (hp : s.pst p ≠ .idle) :
    h.pst p = s.pst p ∧ h.streamLen p = s.streamLen p := by
  obtain ⟨P, hP, e⟩ := port_of_busy hp
  obtain ⟨Q, hQ, hh⟩ := hostCycle_port hx hP
  obtain ⟨pst, sc⟩ := hh.busy (e ▸ hp)
  rw [pst_of_port hP, pst_of_port hQ, streamLen_of_port hP, streamLen_of_port hQ, pst, sc]
  exact ⟨rfl, rfl⟩

/-- The host bus makes no port active and no active port another. -/
theorem hostCycle_active {inp : Input} {s h : State} (hx : hostCycle inp s = .next h) (p : Nat) :
    h.pst p = .active ↔ s.pst p = .active := by
  constructor
  · intro hp
    obtain ⟨Q, hQ, e⟩ := port_of_busy (s := h) (p := p) (by rw [hp]; decide)
    obtain ⟨P, hP, hh⟩ := hostCycle_port_from hx hQ
    rw [pst_of_port hP]
    by_cases idle : P.pst = .idle
    · rcases hh.idle idle with e' | ⟨e', _⟩ <;> rw [e, hp] at e' <;> cases e'
    · rw [← (hh.busy idle).1, e, hp]
  · intro hp
    rw [(hostCycle_busy hx (by rw [hp]; decide)).1, hp]

/-- The host bus keeps the invariant of the send side. -/
theorem TxOk.host {inp : Input} {s h : State} (hs : TxOk s) (hx : hostCycle inp s = .next h) : TxOk h := by
  have params : h.params = s.params := by rw [hostCycle_frame hx]
  have tx : h.tx = s.tx := by rw [hostCycle_frame hx]
  refine ⟨?ports, ?granted, hostCycle_config hs.config.1 hs.config.2 hx, ?csize, ?free, ?held, ?stream, ?send, ?pace,
    ?captured⟩
  case ports => rw [hostCycle_length hx, hs.ports, params]
  case granted => rw [tx, params]; exact hs.granted
  case csize => rw [tx]; exact hs.csize
  case send => rw [tx]; exact hs.send
  case pace => rw [tx]; exact hs.pace
  case free =>
    rw [tx, params]
    exact fun ht p hp => mt (hostCycle_active hx p).1 (hs.free ht p hp)
  case held =>
    rw [tx, params]
    exact fun ht p hp => (hostCycle_active hx p).trans (hs.held ht p hp)
  case stream =>
    rw [tx]
    intro ht
    have active : s.pst s.tx.gp = .active := (hs.held ht _ hs.granted.1).2 rfl
    rw [(hostCycle_busy hx (by rw [active]; decide)).2]
    exact hs.stream ht
  case captured =>
    intro Q hQ busy
    obtain ⟨q, hq⟩ := List.mem_iff_getElem?.1 hQ
    obtain ⟨P, hP, hh⟩ := hostCycle_port_from hx hq
    by_cases idle : P.pst = .idle
    · rcases hh.idle idle with e | ⟨_, legal⟩
      · exact absurd e busy
      · exact legal
    · rw [(hh.busy idle).2]
      exact hs.captured P (List.mem_of_getElem? hP) idle

/-! ## The TX engine -/

/-- The invariant holds when the granted send goes on within its ranges. -/
theorem TxOk.goesOn {s h : State} {x : TxEngine} (hh : TxOk h) (tx : h.tx = s.tx) (ht : s.tx.ts ≠ .idle)
    (hx : x.ts ≠ .idle) (same : x.gp = s.tx.gp ∧ x.rr = s.tx.rr ∧ x.total = s.tx.total ∧ x.csize = s.tx.csize)
    (hpos : x.pos ≤ s.tx.total) (hsend : x.ts = .send → x.pos < s.tx.total ∧ x.cpos < s.tx.csize)
    (hpace : x.ts = .pace → 1 ≤ x.pr ∧ x.cpos = 0) : TxOk { h with tx := x } := by
  obtain ⟨hgp, hrr, htotal, hcsize⟩ := same
  rw [← tx] at ht hgp hrr htotal hcsize hpos hsend
  refine ⟨hh.ports, ?granted, hh.config, ?csize, fun e => absurd e hx, fun _ => ?held, fun _ => ?stream, fun e => ?send,
    hpace, hh.captured⟩
  case granted => rw [hgp, hrr]; exact hh.granted
  case csize => rw [hcsize]; exact hh.csize
  case held => rw [hgp]; exact hh.held ht
  case stream =>
    change x.total = h.streamLen x.gp ∧ x.pos ≤ x.total
    rw [hgp, htotal]
    exact ⟨(hh.stream ht).1, hpos⟩
  case send =>
    change x.pos < x.total ∧ x.cpos < x.csize
    rw [htotal, hcsize]
    exact hsend e

/-- The end of a send frees the lock, and no port is active. -/
theorem TxOk.sendEnds {s h : State} (hh : TxOk h) (tx : h.tx = s.tx) (ht : s.tx.ts ≠ .idle) (e : ErrCode) (r : Nat) :
    TxOk (endSend s h e r) where
  ports := (updPort_length _ _ _).trans hh.ports
  granted := by
    change s.tx.gp < h.params.nport ∧ s.tx.rr < h.params.nport
    rw [← tx]
    exact hh.granted
  config := hh.config
  csize := by
    change 1 ≤ s.tx.csize ∧ s.tx.csize < 2 ^ 16
    rw [← tx]
    exact hh.csize
  free := by
    intro _ p hp
    by_cases hg : p = s.tx.gp
    · have hlt : p < h.ports.length := by rw [hh.ports]; exact hp
      subst hg
      have idle : (endSend s h e r).pst s.tx.gp = .idle := pst_updPort_same hlt fun _ => rfl
      rw [idle]
      decide
    · have same : (endSend s h e r).pst p = h.pst p := pst_updPort_ne hg _
      rw [same, ne_eq, hh.held (by rw [tx]; exact ht) p hp, tx]
      exact hg
  held := fun hx => absurd rfl hx
  stream := fun hx => absurd rfl hx
  send := nofun
  pace := nofun
  captured := by
    intro Q hQ busy
    rcases mem_updPort hQ with hQ | ⟨P, _, rfl⟩
    · exact hh.captured Q hQ busy
    · exact absurd rfl busy

/-- The grant makes the waiting port the active one. -/
theorem TxOk.grants {s h : State} (hh : TxOk h) (hs : h.tx.ts = .idle) (hc : s.chunk ≠ 0) {p : Nat}
    (hp : p < h.params.nport) (hw : h.pst p = .waitlock) (hl : h.streamLen p = s.streamLen p) :
    TxOk (grantPort s h p) := by
  obtain ⟨P, hP, hpst⟩ := port_of_busy (s := h) (p := p) (by rw [hw]; decide)
  have chunk : 1 ≤ s.chunk.toNat := Nat.pos_of_ne_zero fun e => hc (BitVec.eq_of_toNat_eq e)
  have total : 0 < s.streamLen p := by
    rw [← hl, streamLen_of_port hP]
    exact streamLen_pos _
  refine ⟨?ports, ⟨hp, hp⟩, hh.config, ⟨chunk, s.chunk.isLt⟩, nofun, ?held, ?stream, fun _ => ⟨total, chunk⟩, nofun,
    ?captured⟩
  case ports => exact (updPort_length _ _ _).trans hh.ports
  case held =>
    intro _ q hq
    change _ ↔ q = p
    by_cases e : q = p
    · have hlt : p < h.ports.length := by rw [hh.ports]; exact hp
      subst e
      have active : (grantPort s h q).pst q = .active := pst_updPort_same hlt fun _ => rfl
      exact iff_of_true active rfl
    · have same : (grantPort s h p).pst q = h.pst q := pst_updPort_ne e _
      rw [same]
      exact iff_of_false (hh.free hs q hq) e
  case stream =>
    intro _
    have same : (grantPort s h p).streamLen p = h.streamLen p :=
      streamLen_updPort (s := { h with tx := grantedTx s p }) (f := fun P => { P with pst := .active }) (fun _ => rfl) p
    exact ⟨(same.trans hl).symm, Nat.zero_le _⟩
  case captured =>
    intro Q hQ busy
    rcases mem_updPort hQ with hQ | ⟨P', hP', rfl⟩
    · exact hh.captured Q hQ busy
    · obtain rfl : P = P' := Option.some.inj (hP.symm.trans hP')
      exact hh.captured P (List.mem_of_getElem? hP) (by rw [hpst, hw]; decide)

/-- A transfer goes on with the chunk or starts its pacing wait (41_writer.md R182, R183). -/
theorem TxOk.transfer {s h : State} (hs : TxOk s) (hh : TxOk h) (tx : h.tx = s.tx) (ht : s.tx.ts = .send)
    (hclk : 1 ≤ s.params.clkHz) : TxOk { h with tx := txAdvance s } := by
  have busy : s.tx.ts ≠ .idle := by rw [ht]; decide
  obtain ⟨pos, cpos⟩ := hs.send ht
  unfold txAdvance
  split
  · have wait := paceCycles_pos hclk (Nat.le_add_left 1 s.tx.cpos) (b := s.bps.toNat)
      fun e => hs.config.1 (BitVec.eq_of_toNat_eq e)
    exact hh.goesOn tx busy nofun ⟨rfl, rfl, rfl, rfl⟩ pos nofun fun _ => ⟨wait, rfl⟩
  · rename_i more
    obtain ⟨chunk, stream⟩ := not_or.1 more
    have inStream : s.tx.pos + 1 < s.tx.total := by omega
    have inChunk : s.tx.cpos + 1 < s.tx.csize := by omega
    have notPace : s.tx.ts ≠ .pace := by rw [ht]; decide
    exact hh.goesOn tx busy busy ⟨rfl, rfl, rfl, rfl⟩ pos (fun _ => ⟨inStream, inChunk⟩) fun e => absurd e notPace

/-- The pacing wait ends and the next chunk begins (41_writer.md R185). -/
theorem TxOk.nextChunk {s h : State} (hs : TxOk s) (hh : TxOk h) (tx : h.tx = s.tx) (ht : s.tx.ts = .pace)
    (hpos : s.tx.pos ≠ s.tx.total) : TxOk { h with tx := { s.tx with ts := .send } } := by
  have busy : s.tx.ts ≠ .idle := by rw [ht]; decide
  have le : s.tx.pos ≤ s.tx.total := (hs.stream busy).2
  have inChunk : s.tx.cpos < s.tx.csize := by
    rw [(hs.pace ht).2]
    exact hs.csize.1
  exact hh.goesOn tx busy nofun ⟨rfl, rfl, rfl, rfl⟩ le (fun _ => ⟨Nat.lt_of_le_of_ne le hpos, inChunk⟩) nofun

/-- The pacing wait goes on (41_writer.md R184). -/
theorem TxOk.waits {s h : State} (hs : TxOk s) (hh : TxOk h) (tx : h.tx = s.tx) (ht : s.tx.ts = .pace)
    (hpr : s.tx.pr ≠ 1) : TxOk { h with tx := { s.tx with pr := s.tx.pr - 1 } } := by
  have busy : s.tx.ts ≠ .idle := by rw [ht]; decide
  have notSend : s.tx.ts ≠ .send := by rw [ht]; decide
  obtain ⟨pr, cpos⟩ := hs.pace ht
  have left : 1 ≤ s.tx.pr - 1 := by omega
  exact hh.goesOn tx busy busy ⟨rfl, rfl, rfl, rfl⟩ (hs.stream busy).2 (fun e => absurd e notSend) fun _ => ⟨left, cpos⟩

/-- Every move of the TX engine keeps the invariant of the send side. -/
theorem TxOk.move {inp : Input} {s h a : State} (hs : TxOk s) (hl : s.params.Legal)
    (hx : hostCycle inp s = .next h) (hm : TxMove inp s h a) : TxOk a := by
  have params : h.params = s.params := by rw [hostCycle_frame hx]
  have tx : h.tx = s.tx := by rw [hostCycle_frame hx]
  have hh := hs.host hx
  cases hm
  case noGrant => exact hh
  case stall => exact hh
  case grant p ht hp hw =>
    obtain ⟨pst, len⟩ := hostCycle_busy hx (p := p) (by rw [hw]; decide)
    exact hh.grants (tx ▸ ht) hs.config.2 (params ▸ hp) (pst.trans hw) len
  case fail ht _ => exact hh.sendEnds tx (by rw [ht]; decide) _ _
  case complete ht _ _ => exact hh.sendEnds tx (by rw [ht]; decide) _ _
  case transfer ht _ _ _ => exact hs.transfer hh tx ht hl.1.1
  case nextChunk ht hpos => exact hs.nextChunk hh tx ht hpos
  case count ht hpr => exact hs.waits hh tx ht hpr

/-- A move of the TX engine leaves every TXBUF. -/
theorem TxMove.txbuf {inp : Input} {s h a : State} (hm : TxMove inp s h a) (hh : ∀ P ∈ h.ports, P.txbuf.wf) :
    ∀ P ∈ a.ports, P.txbuf.wf := by
  intro Q hQ
  cases hm
  case grant | fail | complete =>
    rcases mem_updPort hQ with hQ | ⟨P, hP, rfl⟩
    · exact hh Q hQ
    · exact hh P (List.mem_of_getElem? hP)
  all_goals exact hh Q hQ

/-- No port is busy after the EXIT abort. -/
theorem exitAbort_idle {s : State} {Q : Port} (h : Q ∈ s.exitAbort.ports) : Q.pst = .idle := by
  obtain ⟨p, hp⟩ := List.mem_iff_getElem?.1 h
  rw [exitAbort_getElem?] at hp
  obtain ⟨P, _, rfl⟩ := Option.map_eq_some_iff.1 hp
  exact abortPort_pst _ _ _

/-- The EXIT abort keeps the invariant of the send side: no port is busy and the lock is free. -/
theorem TxOk.exitAbort {s : State} (h : TxOk s) : TxOk s.exitAbort := by
  have idle : ∀ p, s.exitAbort.pst p = .idle := by
    intro p
    by_contra busy
    obtain ⟨P, hP, e⟩ := port_of_busy busy
    exact busy (e.symm.trans (exitAbort_idle (List.mem_of_getElem? hP)))
  refine ⟨?ports, h.granted, h.config, h.csize, fun _ p _ => ?free, fun e => absurd rfl e, fun e => absurd rfl e, nofun,
    nofun, fun Q hQ busy => ?captured⟩
  case ports => simpa using h.ports
  case free => rw [idle p]; decide
  case captured => exact absurd (exitAbort_idle hQ) busy

/-- The EXIT abort leaves every TXBUF. -/
theorem exitAbort_txbuf {s : State} (h : ∀ P ∈ s.ports, P.txbuf.wf) : ∀ P ∈ s.exitAbort.ports, P.txbuf.wf := by
  intro Q hQ
  obtain ⟨p, hp⟩ := List.mem_iff_getElem?.1 hQ
  rw [exitAbort_getElem?] at hp
  obtain ⟨P, hP, rfl⟩ := Option.map_eq_some_iff.1 hp
  unfold abortPort
  split <;> exact h P (List.mem_of_getElem? hP)

end Sys2Proof.Machine
end

section
/-! The invariant (10_state.md sections 2 and 3, 42_dispatch.md R200-R211, 44_engine_tx.md R287, R288): it holds after reset,
every step keeps it, and no step from it stops. -/

namespace Sys2Proof.Machine

/-! ## The RX engine -/

/-- What a frame's header and body reading never writes. -/
structure SameDispatch (s t : State) : Prop where
  params : t.params = s.params
  halted : t.halted = s.halted
  disp : t.disp = s.disp
  view : t.view = s.view

/-- The invariant of the RX engine while it reads: the assembly state is as before, and `rs` stays in the bundle or out
of it, or the read task ends. -/
theorem RxOk.reads {s t : State} (h : RxOk s) (hd : s.rx.rs ≠ .dwait) (same : SameDispatch s t)
    (hcnt : t.rx.hcnt ≤ 3 ∧ (t.rx.rs.inBody = true → t.rx.hcnt = 0)) (bcnt : t.rx.bcnt ≤ t.rx.cur.len.toNat)
    (assembly : t.rx.top = s.rx.top ∧ t.rx.nfrag = s.rx.nfrag ∧ t.rx.fidx = s.rx.fidx ∧ t.rx.boff = s.rx.boff ∧
      t.rx.rsum = s.rx.rsum)
    (bundle : t.rx.rs.inBundle = true → s.rx.rs.inBundle = true) (wait : t.rx.rs ≠ .dwait) : RxOk t := by
  obtain ⟨top, nfrag, fidx, boff, rsum⟩ := assembly
  refine ⟨⟨hcnt.1, hcnt.2, fun e => absurd e wait⟩, bcnt, ?_, ?_, fun hh hb => ?_, ?_, ?_, ?_⟩
  · rw [fidx, nfrag]; exact h.frags
  · rw [rsum, boff, fidx]; exact h.sums
  · rw [fidx, nfrag, top]; exact h.bundle (same.halted ▸ hh) (bundle hb)
  · rw [same.disp, h.pend]
    exact iff_of_false hd wait
  · rw [same.params, same.disp]; exact h.disp
  · rw [same.view]; exact h.view

/-- No dispatch is pending but in DWAIT. -/
theorem RxOk.not_pending {s : State} (h : RxOk s) (hd : s.rx.rs ≠ .dwait) : s.disp.pend = false :=
  Bool.eq_false_iff.2 (mt h.pend.1 hd)

theorem inHeader_cases {x : RxState} (h : x.inHeader = true) : x = .hdr ∨ x = .fhdr := by
  cases x <;> simp_all [RxState.inHeader]

theorem inBody_cases {x : RxState} (h : x.inBody = true) : x = .body ∨ x = .fbody := by
  cases x <;> simp_all [RxState.inBody]

theorem not_dwait_of_inBody {x : RxState} (h : x.inBody = true) : x ≠ .dwait := by
  rcases inBody_cases h with e | e <;> rw [e] <;> decide

/-- A header byte keeps the invariant. -/
theorem RxOk.headerByte {s : State} (h : RxOk s) (hs : s.rx.rs.inHeader = true) (b : Byte) :
    RxOk (takeHeaderByte b s) := by
  rcases takeHeaderByte_cases b s with ⟨hc, _, _, _, e⟩ | e <;> rw [e]
  · refine h.reads ?_ ⟨rfl, rfl, rfl, rfl⟩ ⟨hc, ?_⟩ h.bcnt ⟨rfl, rfl, rfl, rfl, rfl⟩ id ?_ <;>
      rcases inHeader_cases hs with e | e <;> simp [e, RxState.inBody]
  · refine h.reads ?_ ⟨rfl, rfl, rfl, rfl⟩ ⟨Nat.zero_le _, fun _ => rfl⟩ (Nat.zero_le _) ⟨rfl, rfl, rfl, rfl, rfl⟩ ?_ ?_ <;>
      rcases inHeader_cases hs with e | e <;> simp [headerComplete, e, RxState.inBundle]

/-- A body cycle that reads keeps the invariant: the count stays within the declared length. -/
theorem RxOk.bodyRead {s t : State} (h : RxOk s) (hs : s.rx.rs.inBody = true) (same : SameDispatch s t) {n e : Nat}
    (hn : n ≤ s.rx.cur.len.toNat) (rx : t.rx = { s.rx with bcnt := n, e := e }) : RxOk t := by
  have hd := not_dwait_of_inBody hs
  have rs : t.rx.rs = s.rx.rs := by rw [rx]
  refine h.reads hd same ?_ ?_ ?_ (by rw [rs]; exact id) (by rw [rs]; exact hd) <;> rw [rx]
  · exact ⟨h.hcnt.1, h.hcnt.2.1⟩
  · exact hn
  · exact ⟨rfl, rfl, rfl, rfl, rfl⟩

/-- Where a bundle is read its fragments fit (40_codec.md R151). -/
theorem RxOk.fits {s : State} (h : RxOk s) (hh : s.halted = false) :
    bodyBase s + s.rx.cur.len.toNat ≤ maxPayload := by
  have len := s.rx.cur.len.isLt
  unfold bodyBase maxPayload
  split
  · rename_i hr
    have ⟨more, _⟩ := h.bundle hh (by rw [hr]; rfl)
    have := h.frags.2
    have := h.sums.2
    omega
  · omega

/-- A frame's body read ends: classification, and for a fragment its bookkeeping. What remains to be said is where the
engine goes next. -/
theorem RxOk.bodyEnds {s t : State} (h : RxOk s) (hh : s.halted = false) (hs : s.rx.rs.inBody = true)
    (rx : t.rx = { (if s.rx.rs = .fbody then fragmentClosed s else s.rx) with rs := t.rx.rs })
    (bundle : t.halted = false → t.rx.rs.inBundle = true →
      s.rx.rs = .fbody ∧ s.rx.fidx + 1 ≠ s.rx.nfrag)
    (pend : t.disp.pend = true ↔ t.rx.rs = .dwait) (disp : dispLegal t.params.nhandler t.disp = true)
    (view : t.view.rcvlen.toNat ≤ t.view.bodylen.toNat ∧ t.view.bodylen.toNat ≤ maxPayload) : RxOk t := by
  have hcnt : s.rx.hcnt = 0 := h.hcnt.2.1 hs
  have len := s.rx.cur.len.isLt
  have bcnt := h.bcnt
  have frags := h.frags
  have sums := h.sums
  by_cases hf : s.rx.rs = .fbody
  · have ⟨more, top⟩ := h.bundle hh (by rw [hf]; rfl)
    rw [if_pos hf] at rx
    refine ⟨?_, ?_, ?_, ?_, fun th tb => ?_, pend, disp, view⟩ <;> rw [rx]
    · simp [fragmentClosed, hcnt]
    · exact bcnt
    · exact ⟨more, frags.2⟩
    · simp only [fragmentClosed]
      omega
    · have ⟨_, notLast⟩ := bundle th tb
      exact ⟨Nat.lt_of_le_of_ne more notLast, top⟩
  · rw [if_neg hf] at rx
    refine ⟨?_, ?_, ?_, ?_, fun th tb => absurd (bundle th tb).1 hf, pend, disp, view⟩ <;> rw [rx]
    · simp [hcnt]
    · exact bcnt
    · exact frags
    · exact sums

/-- The lengths of the frame view are those of a frame that fits RXBUF (10_state.md R36). -/
theorem RxOk.deliveredView {s : State} (h : RxOk s) (hh : s.halted = false) (c : Byte) :
    (deliveredView c s).rcvlen.toNat ≤ (deliveredView c s).bodylen.toNat ∧
      (deliveredView c s).bodylen.toNat ≤ maxPayload := by
  have fits := h.fits hh
  have bcnt := h.bcnt
  have sums := h.sums.1
  have len := s.rx.cur.len.isLt
  unfold bodyBase at fits
  unfold Machine.deliveredView maxPayload at *
  split
  · rename_i hf
    rw [if_pos hf] at fits
    simp only [BitVec.toNat_ofNat]
    omega
  · simp only [BitVec.toNat_ofNat, BitVec.toNat_setWidth]
    omega

/-- Where a decision leaves `rs` and DISP_INFO, a dispatch is pending exactly in DWAIT. -/
theorem nextDisp_pend {x : Action} {r : RxState} {d : DispInfo} (hr : r ≠ .dwait) (hd : d.pend = false) (c : Byte) :
    (x.nextDisp c d).pend = true ↔ x.nextRs r = .dwait := by
  cases x <;> simp [Action.nextDisp, Action.nextRs, hd, hr]

/-- A decision dispatches to the text observer or to an invocable handler of a user code (42_dispatch.md R207, R210). -/
theorem Decides.dispLegal {s : State} {c : Byte} {x : Action} (h : Decides s c x) {d : DispInfo}
    (hd : dispLegal s.params.nhandler d = true) : dispLegal s.params.nhandler (x.nextDisp c d) = true := by
  cases h
  case text h => rw [h]; rfl
  case ext hid hlo hhi hh => simp [Machine.dispLegal, Action.nextDisp, hh, userCode_iff.2 ⟨hlo, hhi⟩]
  case mult body => rcases multDecision_cases body with ⟨q, e⟩ | e | e <;> rw [e] <;> exact hd
  all_goals exact hd

/-- A decision that does not halt reads headers next or waits. -/
theorem nextRs_not_inBundle {x : Action} (hx : x.halts = false) (r : RxState) : (x.nextRs r).inBundle = false := by
  cases x <;> cases hx <;> rfl

theorem inBody_of_completing {s : State} {c : Byte} (h : completing s = some c) : s.rx.rs.inBody = true := by
  rcases (completing_some h).2 with ⟨e, _⟩ | ⟨e, _⟩ <;> rw [e] <;> rfl

/-- The delivery of a frame keeps the invariant. -/
theorem RxOk.delivered {s s1 : State} (h : RxOk s) (hh : s.halted = false) (slots : SlotsOk s) (hm : s.rxbuf.wf)
    {c : Byte} (hc : completing s = some c) (h1 : classify s = .next s1) :
    RxOk (delivered (decision c s s1) c s s1) := by
  have frame := frameDelivered (decision c s s1) c h1 hm
  have decides := decision_decides h1 slots c
  have hs := inBody_of_completing hc
  have hd := not_dwait_of_inBody hs
  refine h.bodyEnds hh hs frame.engine (fun th tb => ?_) ?_ ?_ ?_
  · rw [delivered_halted _ c h1, hh, Bool.or_false] at th
    rw [delivered_rs _ c h1, nextRs_not_inBundle th] at tb
    cases tb
  · rw [delivered_disp _ c h1, delivered_rs _ c h1]
    exact nextDisp_pend hd (h.not_pending hd) c
  · rw [frame.params, delivered_disp _ c h1]
    exact decides.dispLegal h.disp
  · rw [frame.view]
    exact h.deliveredView hh c

/-- The start of a bundle keeps the invariant: its count is from 1 to 255 (43_engine_rx.md R246). -/
theorem RxOk.bundleStarted {s s1 : State} {n : Nat} (h : RxOk s) (hs : s.rx.rs = .body)
    (hc : s.rx.cur.code = codeBundle) (h1 : classify s = .next s1) (hlo : 1 ≤ n) (hhi : n ≤ 255) :
    RxOk (bundleStarted n s s1) := by
  have e := classify_frame h1
  have hcnt : s.rx.hcnt = 0 := h.hcnt.2.1 (by rw [hs]; rfl)
  have pend : s.disp.pend = false := h.not_pending (by rw [hs]; decide)
  rw [e]
  refine ⟨?_, h.bcnt, ⟨Nat.zero_le _, hhi⟩, ⟨Nat.le_refl _, Nat.le_refl _⟩, fun _ _ => ⟨hlo, hc⟩, ?_, h.disp, h.view⟩
  · simp [Machine.bundleStarted, hcnt]
  · simp [Machine.bundleStarted, pend]

/-- What classification leaves of the dispatch state. -/
theorem classify_sameDispatch {s s1 : State} (h : classify s = .next s1) : SameDispatch s s1 := by
  rw [classify_frame h]
  exact ⟨rfl, rfl, rfl, rfl⟩

/-- Where the engine goes on to a header, no dispatch is pending. -/
theorem RxOk.toHeader {s s1 t : State} (h : RxOk s) (hh : s.halted = false) (hs : s.rx.rs.inBody = true)
    (h1 : classify s = .next s1) (same : SameDispatch s1 t) (ht : t.rx.rs ≠ .dwait)
    (rx : t.rx = { (if s.rx.rs = .fbody then fragmentClosed s else s.rx) with rs := t.rx.rs })
    (bundle : t.rx.rs.inBundle = true → s.rx.rs = .fbody ∧ s.rx.fidx + 1 ≠ s.rx.nfrag) : RxOk t := by
  have same1 := classify_sameDispatch h1
  refine h.bodyEnds hh hs rx (fun _ => bundle) ?_ ?_ ?_
  · rw [same.disp, same1.disp, h.not_pending (not_dwait_of_inBody hs)]
    exact iff_of_false nofun ht
  · rw [same.params, same.disp, same1.params, same1.disp]
    exact h.disp
  · rw [same.view, same1.view]
    exact h.view

/-- Every move of the RX engine keeps its invariant. -/
theorem RxOk.move {inp : Input} {s t : State} (h : RxOk s) (hh : s.halted = false) (slots : SlotsOk s)
    (hm : s.rxbuf.wf) (move : RxMove inp s t) : RxOk t := by
  cases move
  case fault hr _ =>
    have hd : s.rx.rs ≠ .dwait := by
      rcases hr with hr | ⟨hr, _⟩
      · rcases inHeader_cases hr with e | e <;> rw [e] <;> decide
      · exact not_dwait_of_inBody hr
    exact h.reads hd ⟨rfl, rfl, rfl, rfl⟩ ⟨h.hcnt.1, nofun⟩ h.bcnt ⟨rfl, rfl, rfl, rfl, rfl⟩ nofun nofun
  case noByte => exact h
  case wait => exact h
  case headerByte hs => exact h.headerByte hs _
  case bodyByte hs ho _ =>
    have more : s.rx.bcnt + 1 ≤ s.rx.cur.len.toNat := Nat.lt_of_le_of_ne h.bcnt (bodyOver_eq_false.1 ho).1
    exact h.bodyRead hs ⟨rfl, rfl, rfl, rfl⟩ more rfl
  case gap hs => exact h.bodyRead hs ⟨rfl, rfl, rfl, rfl⟩ h.bcnt rfl
  case frame c s1 hc h1 => exact h.delivered hh slots hm hc h1
  case start s1 n hc hs h1 hn =>
    have code : s.rx.cur.code = codeBundle := by
      rcases (completing_some hc).2 with ⟨_, e⟩ | ⟨e, _⟩
      · exact e.symm
      · rw [hs] at e
        cases e
    have valid : ¬ parseCount (s1.rxBytes s.rx.cur.len.toNat) (isBroken s) = none := by simp [hn]
    simp only [parseCount_eq_none, not_or, Nat.not_lt, ← parseCount_some hn] at valid
    exact h.bundleStarted hs code h1 valid.2.2.2.1 valid.2.2.2.2
  case discard s1 hs h1 =>
    refine h.toHeader hh (by rw [hs]; rfl) h1 ⟨rfl, rfl, rfl, rfl⟩ nofun ?_ nofun
    rw [if_neg (by rw [hs]; decide), classify_frame h1]
    rfl
  case fragment s1 hs hn h1 =>
    refine h.toHeader hh (by rw [hs]; rfl) h1 ⟨rfl, rfl, rfl, rfl⟩ nofun ?_ fun _ => ⟨hs, hn⟩
    rw [if_pos hs, classify_frame h1]
    rfl

/-- The acknowledgement of a dispatch keeps the invariant (42_dispatch.md R211). -/
theorem RxOk.acks {s : State} (h : RxOk s) (fail : Bool) : RxOk (s.ackDispatch fail) := by
  rw [ackDispatch_eq]
  exact ⟨⟨h.hcnt.1, nofun, nofun⟩, h.bcnt, h.frags, h.sums, nofun, by simp, rfl, h.view⟩

/-- The RX engine's part of a cycle keeps its invariant. -/
theorem RxOk.rxCycle {inp : Input} {s r : State} (h : RxOk s) (hh : s.halted = false) (slots : SlotsOk s)
    (hm : s.rxbuf.wf) (hr : rxCycle inp s = .next r) : RxOk r := by
  obtain ⟨u, hu, e⟩ := andThen_eq_next.1 hr
  have moved := h.move hh slots hm (rxStep_move hu)
  cases e
  split
  · exact moved.acks _
  · exact moved

/-! ## RXBUF -/

/-- Classification keeps the form of RXBUF. -/
theorem classify_wf {s s1 : State} (h : classify s = .next s1) (hm : s.rxbuf.wf) : s1.rxbuf.wf := by
  rcases classify_eq_next.1 h with ⟨_, rfl⟩ | ⟨hb, hl, rfl⟩
  · exact hm
  · have : s.rx.bcnt < s.rx.cur.len.toNat := by simpa [isBroken] using hb
    exact memFill_wf hm (by omega) _

/-- The RX engine's part of a cycle keeps the form of RXBUF. -/
theorem rxCycle_wf {inp : Input} {s r : State} (hm : s.rxbuf.wf) (hr : rxCycle inp s = .next r) : r.rxbuf.wf := by
  obtain ⟨u, hu, e⟩ := andThen_eq_next.1 hr
  have moved : u.rxbuf.wf := by
    cases rxStep_move hu
    case bodyByte hb => exact memWrite_wf hm hb _
    case frame c s1 _ h1 => simpa [delivered, classified_eq h1] using classify_wf h1 hm
    case start h1 _ => exact (classify_wf h1 hm :)
    case discard h1 => exact (classify_wf h1 hm :)
    case fragment h1 => exact (classify_wf h1 hm :)
    case headerByte =>
      rcases takeHeaderByte_cases inp.rxData s with ⟨_, _, _, _, e⟩ | e <;> rw [e] <;> exact hm
    all_goals exact hm
  cases e
  split
  · rwa [ackDispatch_rxbuf]
  · exact moved

/-! ## Reset -/

theorem resetSlots_length : ((List.range 255).map resetSlot).length = nslot := by simp

/-- The user slots are unbound after reset (10_state.md R42). -/
theorem resetSlots_user {x : Slot} (h : x ∈ ((List.range 255).map resetSlot).drop userLo) : x = .placeholder := by
  obtain ⟨k, hk⟩ := List.mem_iff_getElem?.1 h
  rw [List.getElem?_drop, List.getElem?_map] at hk
  obtain ⟨c, hc, rfl⟩ := Option.map_eq_some_iff.1 hk
  obtain ⟨_, rfl⟩ := List.getElem?_eq_some_iff.1 hc
  rw [List.getElem_range]
  unfold resetSlot userLo
  rw [if_neg (by omega), if_neg (by omega), if_neg (by omega)]

/-- The reset state of a legal instance meets the invariant (10_state.md R49). -/
theorem Inv.resetWith {P : Params} (hP : P.Legal) (env : Env) : Inv (State.resetWith P env) := by
  have port {Q : Port} (hQ : Q ∈ List.replicate P.nport resetPort) : Q = resetPort := List.eq_of_mem_replicate hQ
  have pst (p : Nat) : (State.resetWith P env).pst p = .idle := by
    by_contra busy
    obtain ⟨Q, hQ, e⟩ := port_of_busy busy
    rw [port (List.mem_of_getElem? hQ)] at e
    exact busy e.symm
  have lock : (State.resetWith P env).tx.ts = .idle := rfl
  refine ⟨hP, ⟨resetSlots_length, ?reserved, fun x hx => ?user⟩,
    ⟨⟨List.Pairwise.nil, nofun⟩, fun Q hQ => ?txbuf⟩, ?rx, ?tx, nofun⟩
  case reserved =>
    change ((List.range 255).map resetSlot).take userLo = _
    rw [← List.map_take, List.take_range]
    rfl
  case user =>
    rw [resetSlots_user hx]
    rfl
  case txbuf =>
    rw [port hQ]
    exact ⟨List.Pairwise.nil, nofun⟩
  case rx =>
    exact ⟨⟨Nat.zero_le _, nofun, nofun⟩, Nat.zero_le _, ⟨Nat.zero_le _, Nat.zero_le _⟩, ⟨Nat.zero_le _, Nat.zero_le _⟩,
      nofun, ⟨nofun, nofun⟩, rfl, ⟨Nat.zero_le _, Nat.zero_le _⟩⟩
  case tx =>
    have nport : 1 ≤ P.nport := hP.2.1.1
    have rr : P.nport - 1 < P.nport := by omega
    have csize : 1 ≤ 512 ∧ 512 < 2 ^ 16 := by decide
    refine ⟨List.length_replicate, ⟨nport, rr⟩, ⟨?_, ?_⟩, csize, fun _ p _ => ?_, (absurd lock ·),
      (absurd lock ·), nofun, nofun, fun Q hQ busy => ?_⟩
    · change (300 : Word) ≠ 0
      decide
    · change (512 : BitVec 16) ≠ 0
      decide
    · rw [pst p]
      decide
    · rw [port hQ] at busy
      exact absurd rfl busy

/-- Settles O58: the default parameters are legal. -/
theorem resetMeetsTheInvariant : Obligations.ResetMeetsTheInvariant := Inv.resetWith (by decide) _

/-! ## Every step -/

/-- The joined cycle keeps the invariant where each agent's part keeps its own. -/
theorem Inv.joinAgents {s a r : State} (hl : a.params.Legal) (ha : a.halted = false) (hp : r.params = a.params)
    (slots : SlotsOk a) (txbuf : ∀ P ∈ a.ports, P.txbuf.wf) (tx : TxOk a) (rx : RxOk r) (rxbuf : r.rxbuf.wf) :
    Inv (joinAgents s a r) := by
  have slotsJ : SlotsOk (Machine.joinAgents s a r) := slots.congr (joinAgents_params _ _ _) (joinAgents_slots _ _ _)
  have txJ : TxOk (joinRx s a r) :=
    ⟨tx.ports, tx.granted, tx.config, tx.csize, tx.free, tx.held, tx.stream, tx.send, tx.pace, tx.captured⟩
  have hh : (Machine.joinAgents s a r).halted = r.halted := joinAgents_halted ha
  have view : (Machine.joinAgents s a r).view = r.view := by
    unfold Machine.joinAgents
    split <;> rfl
  have params : (Machine.joinAgents s a r).params = r.params := (joinAgents_params _ _ _).trans hp.symm
  refine ⟨?params, slotsJ, ⟨?rxbuf, ?txbuf⟩, ?rx, ?tx, ?halt⟩
  case params => rwa [joinAgents_params]
  case rxbuf => rwa [joinAgents_rxbuf]
  case txbuf =>
    unfold Machine.joinAgents
    split
    · exact exitAbort_txbuf txbuf
    · exact txbuf
  case rx =>
    constructor
    case bundle => rw [joinAgents_rx, hh]; exact rx.bundle
    case disp => rw [joinAgents_disp, params]; exact rx.disp
    case view => rw [view]; exact rx.view
    case pend => rw [joinAgents_rx, joinAgents_disp]; exact rx.pend
    all_goals rw [joinAgents_rx]
    case hcnt => exact rx.hcnt
    case bcnt => exact rx.bcnt
    case frags => exact rx.frags
    case sums => exact rx.sums
  case tx =>
    unfold Machine.joinAgents
    split
    · exact txJ.exitAbort
    · exact txJ
  case halt =>
    intro halted
    rw [hh] at halted
    unfold Machine.joinAgents
    rw [if_pos halted]
    exact ⟨rfl, fun P hP => exitAbort_idle hP⟩

/-- The invariant does not look at the environment record. -/
theorem Inv.withEnv {s : State} (h : Inv s) (env : Env) : Inv { s with env := env } :=
  ⟨h.params, ⟨h.slots.length, h.slots.reserved, h.slots.user⟩, ⟨h.buffers.rxbuf, h.buffers.txbuf⟩,
    ⟨h.rx.hcnt, h.rx.bcnt, h.rx.frags, h.rx.sums, h.rx.bundle, h.rx.pend, h.rx.disp, h.rx.view⟩,
    ⟨h.tx.ports, h.tx.granted, h.tx.config, h.tx.csize, h.tx.free, h.tx.held, h.tx.stream, h.tx.send, h.tx.pace,
      h.tx.captured⟩, h.halt⟩

/-- The agents' parts of a cycle, joined, keep the invariant. -/
theorem Inv.cycle {inp : Input} {s h a r : State} (hi : Inv s) (hh : s.halted = false)
    (h1 : hostCycle inp s = .next h) (h2 : txCycle inp s h = .next a) (h3 : rxCycle inp s = .next r) :
    Inv (Machine.joinAgents s a r) := by
  have params : a.params = s.params := by rw [txCycle_frame h2, hostCycle_frame h1]
  have slots : a.slots = h.slots := by rw [txCycle_frame h2]
  have paramsA : a.params = h.params := by rw [txCycle_frame h2]
  have txbuf : ∀ P ∈ h.ports, P.txbuf.wf := by
    intro Q hQ
    obtain ⟨p, hp⟩ := List.mem_iff_getElem?.1 hQ
    obtain ⟨P, hP, port⟩ := hostCycle_port_from h1 hp
    exact port.txbuf (hi.buffers.txbuf P (List.mem_of_getElem? hP))
  have move := txCycle_move h2
  exact Inv.joinAgents (params ▸ hi.params) ((agents_halted h1 h2).trans hh)
    ((rxCycle_rxFrame h3).params.trans params.symm) ((hi.slots.host h1).congr paramsA slots) (move.txbuf txbuf)
    (hi.tx.move hi.params h1 move) (hi.rx.rxCycle hh hi.slots hi.buffers.rxbuf h3) (rxCycle_wf hi.buffers.rxbuf h3)

/-- Settles O59: a reset cycle rebuilds the reset state, a HALTED cycle changes nothing, and in an active cycle each
agent keeps its own part of the invariant. -/
theorem stepKeepsTheInvariant : Obligations.StepKeepsTheInvariant := by
  intro s t hi ht
  rcases step_eq_next.1 ht with ⟨_, rfl⟩ | ⟨_, _, rfl⟩ | ⟨_, hh, h, a, r, h1, h2, h3, rfl⟩
  · exact Inv.resetWith hi.params _
  · exact hi.withEnv _
  · exact (hi.cycle hh h1 h2 h3).withEnv _

end Sys2Proof.Machine
end

section
/-! The register map (10_state.md R22, 20_memory.md R71): which byte addresses reach what, the configuration and port
register writes (45_host_interface.md R314-R319), the accesses without effect (20_memory.md R74, R75), and what can change
a user slot (10_state.md R42). -/

namespace Sys2Proof.Machine

/-! ## The map -/

/-- The global registers at their addresses (10_state.md R22). -/
def globalRegs : List (Nat × GlobalReg) :=
  [(0x00, .id), (0x04, .param), (0x08, .clkhz), (0x0C, .gstatus), (0x10, .devAddr), (0x14, .tmult), (0x18, .bps),
   (0x1C, .chunk), (0x20, .dispInfo), (0x24, .dispAck), (0x28, .lastFail), (0x30, .rxfHdr), (0x34, .rxfCode),
   (0x38, .rxfKind), (0x3C, .rxfBodylen), (0x40, .rxfRcvlen), (0x44, .rxfNfrag), (0x50, .cntRxframe),
   (0x54, .cntRxdrop), (0x58, .cntBroken), (0x5C, .cntHfail), (0x60, .cntBadbundle)]

/-- The registers of a port at their offsets (10_state.md R22). -/
def portRegs : List (Nat × PortReg) :=
  [(0x00, .pcmd), (0x04, .pstatus), (0x08, .presult), (0x0C, .parg0), (0x10, .parg1), (0x14, .txLen),
   (0x18, .txSender), (0x1C, .txTarget), (0x20, .txCode)]

theorem globalReg?_eq_some {a : Nat} {r : GlobalReg} : globalReg? a = some r ↔ (a, r) ∈ globalRegs := by
  constructor
  · intro h
    unfold globalReg? at h
    split at h <;> cases h <;> decide
  · have all : ∀ x ∈ globalRegs, globalReg? x.1 = some x.2 := by decide
    exact all (a, r)

theorem portReg?_eq_some {o : Nat} {r : PortReg} : portReg? o = some r ↔ (o, r) ∈ portRegs := by
  constructor
  · intro h
    unfold portReg? at h
    split at h <;> cases h <;> decide
  · have all : ∀ x ∈ portRegs, portReg? x.1 = some x.2 := by decide
    exact all (o, r)

theorem lt_of_mem_globalRegs {a : Nat} {r : GlobalReg} (h : (a, r) ∈ globalRegs) : a < 0x100 := by
  have all : ∀ x ∈ globalRegs, x.1 < 0x100 := by decide
  exact all (a, r) h

theorem lt_of_mem_portRegs {o : Nat} {r : PortReg} (h : (o, r) ∈ portRegs) : o < 0x100 := by
  have all : ∀ x ∈ portRegs, x.1 < 0x100 := by decide
  exact all (o, r) h

/-- What each byte address reaches, range by range (20_memory.md R71). -/
inductive Reaches (nport a : Nat) : BusTarget → Prop where
  | glob {r : GlobalReg} (h : (a, r) ∈ globalRegs) : Reaches nport a (.glob r)
  | port {p o : Nat} {r : PortReg} (hp : p < nport) (h : (o, r) ∈ portRegs) (ha : a = 0x100 + 0x100 * p + o) :
      Reaches nport a (.port p r)
  | slot (hlo : 0xC00 ≤ a) (hhi : a < 0x1000) : Reaches nport a (.slot ((a - 0xC00) / 4))
  | rxbuf (hlo : 0x10000 ≤ a) (hhi : a < 0x20000) : Reaches nport a (.rxbuf (a - 0x10000))
  | txbuf (hlo : 0x20000 ≤ a) (hhi : a < 0x20000 + 0x10000 * nport) :
      Reaches nport a (.txbuf ((a - 0x20000) / 0x10000) ((a - 0x20000) % 0x10000))
  | unmapped (hg : ∀ r, (a, r) ∉ globalRegs)
      (hport : ∀ p < nport, ∀ o r, (o, r) ∈ portRegs → a ≠ 0x100 + 0x100 * p + o)
      (hwin : (a < 0xC00 ∨ 0x1000 ≤ a) ∧ (a < 0x10000 ∨ 0x20000 ≤ a) ∧ (a < 0x20000 ∨ 0x20000 + 0x10000 * nport ≤ a)) :
      Reaches nport a .unmapped

/-- The address map says what an address reaches. -/
theorem busTarget_reaches {nport : Nat} (hn : nport ≤ 8) (a : Nat) : Reaches nport a (busTarget nport a) := by
  have noGlob (ha : 0x100 ≤ a) (r : GlobalReg) : (a, r) ∉ globalRegs := fun h =>
    absurd (lt_of_mem_globalRegs h) (Nat.not_lt.2 ha)
  have noPort (ha : a < 0x100 ∨ 0x100 + 0x100 * nport ≤ a) (p : Nat) (hp : p < nport) (o : Nat) (r : PortReg)
      (h : (o, r) ∈ portRegs) : a ≠ 0x100 + 0x100 * p + o := by
    have := lt_of_mem_portRegs h
    omega
  unfold busTarget portBase txWindow
  split
  · unfold targetOf
    split
    · exact .glob (globalReg?_eq_some.1 ‹_›)
    · rename_i ha _ hr
      refine .unmapped (fun r h => ?_) (noPort (.inl ha)) (by omega)
      rw [globalReg?_eq_some.2 h] at hr
      cases hr
  · split
    · unfold targetOf
      split
      · exact .port (by omega) (portReg?_eq_some.1 ‹_›) (by omega)
      · rename_i hlo hhi _ hr
        refine .unmapped (noGlob (Nat.le_of_not_lt hlo)) (fun p _ o r h e => ?_) (by omega)
        have := lt_of_mem_portRegs h
        have offset : (a - 0x100) % 0x100 = o := by omega
        rw [offset, portReg?_eq_some.2 h] at hr
        cases hr
    · split
      · rename_i h
        exact .slot h.1 h.2
      · split
        · rename_i h
          exact .rxbuf h.1 h.2
        · split
          · rename_i h
            exact .txbuf h.1 h.2
          · exact .unmapped (noGlob (by omega)) (noPort (by omega)) (by omega)

theorem busTarget_glob {a : Nat} {r : GlobalReg} (h : (a, r) ∈ globalRegs) (nport : Nat) :
    busTarget nport a = .glob r := by
  rw [busTarget, if_pos (lt_of_mem_globalRegs h), globalReg?_eq_some.2 h, targetOf]

theorem busTarget_port {nport p o : Nat} {r : PortReg} (hp : p < nport) (h : (o, r) ∈ portRegs) :
    busTarget nport (0x100 + 0x100 * p + o) = .port p r := by
  have ho := lt_of_mem_portRegs h
  have port : (0x100 + 0x100 * p + o - 0x100) / 0x100 = p := by omega
  have offset : (0x100 + 0x100 * p + o - 0x100) % 0x100 = o := by omega
  unfold busTarget portBase
  rw [if_neg (by omega), if_pos (by omega), offset, port, portReg?_eq_some.2 h, targetOf]

/-- An address that reaches a port register is that register's, whatever NPORT is. -/
theorem busTarget_eq_port {nport a p : Nat} {r : PortReg} (h : busTarget nport a = .port p r) :
    p < nport ∧ ∃ o, (o, r) ∈ portRegs ∧ a = 0x100 + 0x100 * p + o := by
  unfold busTarget portBase at h
  split at h
  · unfold targetOf at h
    split at h <;> cases h
  · split at h
    · unfold targetOf at h
      split at h
      · cases h
        exact ⟨by omega, _, portReg?_eq_some.1 ‹_›, by omega⟩
      · cases h
    · split at h
      · cases h
      · split at h
        · cases h
        · split at h <;> cases h

/-! ## Configuration writes -/

/-- A full-word write of a global register. -/
theorem WritesWord.hostCycle_glob {inp : Input} {a : Nat} {w : Word} (h : WritesWord inp a w) {r : GlobalReg}
    (hr : (a, r) ∈ globalRegs) (s : State) : Machine.hostCycle inp s = .next (writeGlobal w s r) := by
  rw [h.hostCycle, busTarget_glob hr]
  rfl

/-- Settles O50: each register by its address. -/
theorem configurationWrites : Obligations.ConfigurationWrites := by
  intro s inp w
  have low8 : w.extractLsb' 0 8 = w.setWidth 8 := by rw [BitVec.setWidth_eq_extractLsb' (by decide)]
  have low16 : w.extractLsb' 0 16 = w.setWidth 16 := by rw [BitVec.setWidth_eq_extractLsb' (by decide)]
  rw [low8, low16]
  refine ⟨fun h => ?_, fun h => ?_, fun h => ?_, fun h => ?_⟩
  · rw [WritesWord.hostCycle_glob h (r := .devAddr) (by decide)]
    rfl
  · rw [WritesWord.hostCycle_glob h (r := .tmult) (by decide)]
    rfl
  · rw [WritesWord.hostCycle_glob h (r := .bps) (by decide)]
    rfl
  · rw [WritesWord.hostCycle_glob h (r := .chunk) (by decide)]
    rfl

/-- A full-word write of a port register. -/
theorem WritesWord.hostCycle_port {inp : Input} {p o : Nat} {w : Word} (h : WritesWord inp (0x100 + 0x100 * p + o) w)
    {r : PortReg} (hr : (o, r) ∈ portRegs) {s : State} (hp : p < s.params.nport) :
    Machine.hostCycle inp s = writePort p w s r := by
  rw [h.hostCycle, busTarget_port hp hr]
  rfl

/-- Settles O51: each register by its address, and the update of an existing port. -/
theorem portRegisterAndStickyBitWrites : Obligations.PortRegisterAndStickyBitWrites := by
  intro s inp w p P hp _ hP
  have upd (f : Port → Port) : Host.Outcome.next (s.updPort p f) = (.next (s.withPort p (f P)) : Result) :=
    congrArg _ (updPort_eq_withPort hP f)
  refine ⟨fun h => ?_, fun h => ?_, fun h => ?_, fun h => ?_, fun h => ?_, fun h => ?_, fun h => ?_, fun h => ?_⟩
  · exact (WritesWord.hostCycle_port h (r := .parg0) (by decide) hp).trans (upd _)
  · exact (WritesWord.hostCycle_port h (r := .parg1) (by decide) hp).trans (upd _)
  · exact (WritesWord.hostCycle_port h (r := .txLen) (by decide) hp).trans (upd _)
  · exact (WritesWord.hostCycle_port h (r := .txSender) (by decide) hp).trans (upd _)
  · exact (WritesWord.hostCycle_port h (r := .txTarget) (by decide) hp).trans (upd _)
  · exact (WritesWord.hostCycle_port h (r := .txCode) (by decide) hp).trans (upd _)
  · exact (WritesWord.hostCycle_port h (r := .pstatus) (by decide) hp).trans (upd _)
  · exact WritesWord.hostCycle_glob h (r := .gstatus) (by decide) s

/-! ## User slots -/

/-- A BIND or UNBIND comes from its own command word (30_encoding.md R112). -/
theorem decodeCommand_bind {p q : Nat} {w : Word} (h : decodeCommand p w = .bind q) : w = 0x03 := by
  unfold decodeCommand at h
  split at h
  · cases h
  · split at h
    · cases h
    · split at h
      · assumption
      · split at h
        · cases h
        · split at h <;> cases h

theorem decodeCommand_unbind {p q : Nat} {w : Word} (h : decodeCommand p w = .unbind q) : w = 0x04 := by
  unfold decodeCommand at h
  split at h
  · cases h
  · split at h
    · cases h
    · split at h
      · cases h
      · split at h
        · assumption
        · split at h <;> cases h

/-- A port register write changes a slot only as a BIND or UNBIND word in PCMD of an idle port whose PARG0 names the
slot. -/
theorem writePort_slots {p c : Nat} {w : Word} {s t : State} {r : PortReg} (h : writePort p w s r = .next t)
    (hc : t.slots[c]? ≠ s.slots[c]?) :
    r = .pcmd ∧ (w = 0x03 ∨ w = 0x04) ∧ ∃ P, s.ports[p]? = some P ∧ P.pst = .idle ∧ P.parg0.toNat = c := by
  cases r
  case pcmd =>
    rcases exec_command_slots (decodeCommand_source p w) h with e | ⟨P, x, word, hP, idle, _, e⟩
    · exact absurd (by rw [e]) hc
    · refine ⟨rfl, word.imp decodeCommand_bind decodeCommand_unbind, P, hP, idle, ?_⟩
      by_contra other
      exact hc (by rw [e, List.getElem?_set_ne (show P.codeArg ≠ c from other)])
  all_goals
    cases h
    exact absurd rfl hc

/-- Settles O32: in an active cycle the slot table is the host bus's, and its moves change a slot only by such a word. -/
theorem userSlotsChangeOnlyByBindAndUnbind : Obligations.UserSlotsChangeOnlyByBindAndUnbind := by
  intro s t c ht hc
  rcases step_eq_next.1 ht with ⟨hr, _⟩ | ⟨_, _, rfl⟩ | ⟨_, _, h, a, r, h1, h2, _, rfl⟩
  · exact .inl hr
  · exact absurd rfl hc
  · right
    change (joinAgents s a r).slots[c]? ≠ _ at hc
    have txSlots : a.slots = h.slots := by rw [txCycle_frame h2]
    rw [joinAgents_slots, txSlots] at hc
    cases hostCycle_move h1
    case none => exact absurd rfl hc
    case glob r _ _ => exact absurd (by rw [writeGlobal_slots]) hc
    case txbuf => exact absurd rfl hc
    case port p r hw htgt hx =>
      obtain ⟨rfl, word, P, hP, idle, code⟩ := writePort_slots hx hc
      obtain ⟨_, o, ho, ha⟩ := busTarget_eq_port htgt
      have pcmd : o = 0 := by simpa [portRegs] using ho
      obtain ⟨valid, write, strobe⟩ := hw
      rw [pcmd] at ha
      exact ⟨p, P, hP, idle, code, word.imp (⟨valid, write, strobe, ha, ·⟩) (⟨valid, write, strobe, ha, ·⟩)⟩

end Sys2Proof.Machine
end

section
/-! What the bus answers: the accesses without effect (20_memory.md R74, R75), and the word of every register and window as
its fields make it (10_state.md R23-R39, 30_encoding.md R115-R117).

A register word is a sum of fields at their places in the model and a concatenation of fields in the statement; both have
the same number. -/

namespace Sys2Proof.Machine

/-! ## Words and their fields -/

/-- A concatenation as a number: the high part at its place, and the low part. -/
theorem toNat_append_eq_add {m n : Nat} (x : BitVec m) (y : BitVec n) : (x ++ y).toNat = x.toNat * 2 ^ n + y.toNat := by
  rw [BitVec.toNat_append, Nat.shiftLeft_eq, Nat.mul_comm, Nat.two_pow_add_eq_or_of_lt y.isLt]

/-- A flag as a number. -/
theorem bit_eq_toNat (b : Bool) : bit b = (BitVec.ofBool b).toNat := by cases b <;> rfl

theorem slotKind_number_lt (k : SlotKind) : k.number < 8 := by cases k <;> decide

theorem cause_number_lt (k : Cause) : k.number < 4 := by cases k <;> decide

theorem frameKind_number_lt (k : FrameKind) : k.number < 4 := by cases k <;> decide

theorem rxState_number_lt (x : RxState) : x.number < 16 := by cases x <;> decide

theorem errCode_number_lt (e : ErrCode) : e.number < 256 := by cases e <;> decide

/-- A word is a concatenation where their numbers agree. -/
theorem ofNat_eq_word {n : Nat} {w : Word} (h : n = w.toNat) : BitVec.ofNat 32 n = w := by
  rw [h, BitVec.ofNat_toNat, BitVec.setWidth_eq]

/-- A register narrower than a word reads with zeros above it. -/
theorem setWidth_word {m n : Nat} (x : BitVec n) (h : m + n = 32) : x.setWidth 32 = (0#m ++ x).cast h := by
  apply BitVec.eq_of_toNat_eq
  have lt : x.toNat < 2 ^ 32 := Nat.lt_of_lt_of_le x.isLt (Nat.pow_le_pow_right (by decide) (by omega))
  rw [BitVec.toNat_setWidth, BitVec.toNat_cast, toNat_append_eq_add, Nat.mod_eq_of_lt lt]
  simp

theorem paramWord_eq (P : Params) : paramWord P =
    0#8 ++ P.fill ++ BitVec.ofNat 8 (P.nhandler - 1) ++ 0#4 ++ BitVec.ofNat 4 P.nport := by
  apply ofNat_eq_word
  simp only [toNat_append_eq_add, BitVec.toNat_ofNat]
  omega

theorem gstatusWord_eq (s : State) : gstatusWord s =
    0#19 ++ BitVec.ofBool s.disp.pend ++ BitVec.ofNat 4 s.rx.rs.number ++
      (if s.tx.ts = .idle then 0#3 else BitVec.ofNat 3 s.tx.gp) ++ BitVec.ofBool (s.tx.ts != .idle) ++
      BitVec.ofBool s.ackdrop ++ BitVec.ofBool s.cfgerr ++ BitVec.ofBool (s.rx.rs == .dead) ++ BitVec.ofBool s.halted := by
  have rs := rxState_number_lt s.rx.rs
  have gp : (if s.tx.ts = .idle then 0#3 else BitVec.ofNat 3 s.tx.gp).toNat =
      if s.tx.ts = .idle then 0 else s.tx.gp % 2 ^ 3 := by split <;> simp
  apply ofNat_eq_word
  simp only [toNat_append_eq_add, gp, bit_eq_toNat, BitVec.toNat_ofNat]
  omega

theorem tmultWord_eq (t : TMult) : tmultWord t = 0#15 ++ BitVec.ofBool t.inf ++ t.mult := by
  apply ofNat_eq_word
  simp only [toNat_append_eq_add, bit_eq_toNat, BitVec.toNat_ofNat]
  omega

theorem dispWord_eq (d : DispInfo) : dispWord d =
    BitVec.ofBool d.pend ++ 0#12 ++ BitVec.ofNat 3 d.kind.number ++ d.hid ++ d.code := by
  have kind := slotKind_number_lt d.kind
  apply ofNat_eq_word
  simp only [toNat_append_eq_add, bit_eq_toNat, BitVec.toNat_ofNat]
  omega

theorem lastFailWord_eq (f : LastFail) : lastFailWord f =
    0#8 ++ f.hid ++ 0#6 ++ BitVec.ofNat 2 f.cause.number ++ f.code := by
  have cause := cause_number_lt f.cause
  apply ofNat_eq_word
  simp only [toNat_append_eq_add, BitVec.toNat_ofNat]
  omega

theorem headerWord_eq (h : Header) : headerWord h = h.code ++ h.target ++ h.sender ++ h.len := by
  apply ofNat_eq_word
  simp only [toNat_append_eq_add]
  omega

theorem rxfKindWord_eq (v : FrameView) : rxfKindWord v =
    0#22 ++ BitVec.ofBool v.mismatch ++ BitVec.ofBool v.anyBroken ++ 0#6 ++ BitVec.ofNat 2 v.kind.number := by
  have kind := frameKind_number_lt v.kind
  apply ofNat_eq_word
  simp only [toNat_append_eq_add, bit_eq_toNat, BitVec.toNat_ofNat]
  omega

theorem pstatusWord_eq (P : Port) : pstatusWord P =
    0#16 ++ BitVec.ofNat 8 P.err.number ++ 0#3 ++ BitVec.ofBool P.wdrop ++ BitVec.ofBool P.cmddrop ++
      BitVec.ofBool P.done ++ BitVec.ofBool (P.pst == .waitlock) ++ BitVec.ofBool (P.pst != .idle) := by
  have err := errCode_number_lt P.err
  apply ofNat_eq_word
  simp only [toNat_append_eq_add, bit_eq_toNat, BitVec.toNat_ofNat]
  omega

/-- A slot-window word: KIND and HID (30_encoding.md R115). -/
theorem slotWord_eq (x : Slot) : x.word = slotBits x := by
  cases x with
  | ext h =>
    apply ofNat_eq_word
    simp only [slotBits, toNat_append_eq_add, BitVec.toNat_ofNat, Slot.kind, Slot.hid, SlotKind.number]
    omega
  | _ => rfl

/-- A window word: byte o + k in lane k (20_memory.md R75). -/
theorem windowWord_eq (buf : Nat → Byte) (o : Nat) : windowWord buf o = windowBits buf o := by
  simp only [windowWord, windowBits, ofLanes, maxPayload, Nat.lt_succ_iff]
  rfl

/-! ## The registers -/

/-- The global registers' words are what the model reads at their addresses. -/
theorem globalWords_eq (s : State) : globalWords s = globalRegs.map fun x => (x.1, readGlobal s x.2) := by
  have byte (x : Byte) : x.setWidth 32 = 0#24 ++ x := setWidth_word (m := 24) x rfl
  have half (x : BitVec 16) : x.setWidth 32 = 0#16 ++ x := setWidth_word (m := 16) x rfl
  have len (x : BitVec 17) : x.setWidth 32 = 0#15 ++ x := setWidth_word (m := 15) x rfl
  simp only [globalRegs, List.map_cons, List.map_nil, readGlobal, paramWord_eq, gstatusWord_eq, byte, tmultWord_eq, half,
    dispWord_eq, lastFailWord_eq, headerWord_eq, rxfKindWord_eq, len]
  rfl

/-- A port's register words are what the model reads at their offsets. -/
theorem portWords_eq (P : Port) : portWords P = portRegs.map fun x => (x.1, readPort P x.2) := by
  simp only [portRegs, List.map_cons, List.map_nil, readPort, pstatusWord_eq]
  rfl

theorem mem_globalWords {s : State} {a : Nat} {w : Word} :
    (a, w) ∈ globalWords s ↔ ∃ r, (a, r) ∈ globalRegs ∧ readGlobal s r = w := by
  rw [globalWords_eq, List.mem_map]
  constructor
  · rintro ⟨⟨a', r⟩, h, e⟩
    cases e
    exact ⟨r, h, rfl⟩
  · rintro ⟨r, h, rfl⟩
    exact ⟨(a, r), h, rfl⟩

theorem mem_portWords {P : Port} {o : Nat} {w : Word} :
    (o, w) ∈ portWords P ↔ ∃ r, (o, r) ∈ portRegs ∧ readPort P r = w := by
  rw [portWords_eq, List.mem_map]
  constructor
  · rintro ⟨⟨o', r⟩, h, e⟩
    cases e
    exact ⟨r, h, rfl⟩
  · rintro ⟨r, h, rfl⟩
    exact ⟨(o, r), h, rfl⟩

/-- An address reaches nothing exactly where the map names neither a register nor a window there. -/
theorem busTarget_unmapped_iff {s : State} (hn : s.params.nport ≤ 8) (hl : s.ports.length = s.params.nport) (a : Nat) :
    busTarget s.params.nport a = .unmapped ↔ ¬ Mapped s a := by
  have port {p : Nat} (hp : p < s.params.nport) : ∃ P, s.ports[p]? = some P :=
    ⟨_, List.getElem?_eq_getElem (hl ▸ hp)⟩
  have mapped (hm : Mapped s a) : busTarget s.params.nport a ≠ .unmapped := by
    rcases hm with ⟨w, hw⟩ | ⟨p, o, P, w, hP, hw, rfl⟩ | hwin
    · obtain ⟨r, hr, _⟩ := mem_globalWords.1 hw
      rw [busTarget_glob hr]
      nofun
    · obtain ⟨r, hr, _⟩ := mem_portWords.1 hw
      have hp : p < s.params.nport := hl ▸ (List.getElem?_eq_some_iff.1 hP).1
      rw [busTarget_port hp hr]
      nofun
    · intro e
      have reaches := busTarget_reaches hn a
      rw [e] at reaches
      cases reaches with
      | unmapped _ _ outside =>
        rw [hl] at hwin
        omega
  constructor
  · exact fun e hm => mapped hm e
  · intro hm
    have reaches := busTarget_reaches hn a
    generalize busTarget s.params.nport a = tgt at reaches
    cases reaches with
    | glob h => exact absurd (.inl ⟨_, mem_globalWords.2 ⟨_, h, rfl⟩⟩) hm
    | port hp h ha =>
      obtain ⟨P, hP⟩ := port hp
      exact absurd (.inr (.inl ⟨_, _, P, _, hP, mem_portWords.2 ⟨_, h, rfl⟩, ha⟩)) hm
    | slot hlo hhi => exact absurd (.inr (.inr (.inl ⟨hlo, hhi⟩))) hm
    | rxbuf hlo hhi => exact absurd (.inr (.inr (.inr (.inl ⟨hlo, hhi⟩)))) hm
    | txbuf hlo hhi => exact absurd (.inr (.inr (.inr (.inr ⟨hlo, hl ▸ hhi⟩)))) hm
    | unmapped => rfl

/-! ## Reads -/

/-- A bus read looks at the block alone, not at the inputs to come. -/
theorem busRead_given (s : State) (inp : Input) (tgt : BusTarget) : busRead (s.given inp) tgt = busRead s tgt := by
  cases tgt
  case glob r => cases r <;> rfl
  all_goals rfl

/-- What the model reads at an address is what the cycle drives (20_memory.md R73). -/
theorem readsWord_of_busRead {s : State} {a : Nat} {w : Word} {err : Bool}
    (h : busRead s (busTarget s.params.nport a) = (w, err)) : ReadsWord s a w err := by
  intro inp t hr hv hw ha ht
  have next : nextInput (s.given inp) = inp := rfl
  have tgt : Input.target inp (s.given inp) = busTarget s.params.nport a := by rw [← ha]; rfl
  rw [step_out ht, next, hr, if_neg (by decide)]
  simp [outputs, hv, hw, tgt, busRead_given, h]

theorem busTarget_slot {nport c : Nat} (hn : nport ≤ 8) (hc : c < 256) : busTarget nport (0xC00 + 4 * c) = .slot c := by
  have code : (0xC00 + 4 * c - 0xC00) / 4 = c := by omega
  unfold busTarget portBase
  rw [if_neg (by omega), if_neg (by omega), if_pos (by omega), code]

theorem busTarget_rxbuf {nport o : Nat} (hn : nport ≤ 8) (ho : o < 0x10000) :
    busTarget nport (0x10000 + o) = .rxbuf o := by
  unfold busTarget portBase
  rw [if_neg (by omega), if_neg (by omega), if_neg (by omega), if_pos (by omega), Nat.add_sub_cancel_left]

/-- Settles O54: each register by its address and its word's fields, each window by its range, and nothing elsewhere. -/
theorem statusWordsHaveTheSpecsFields : Obligations.StatusWordsHaveTheSpecsFields := by
  refine ⟨rfl, rfl, rfl, rfl, rfl, fun s hl hports => ?_⟩
  obtain ⟨_, ⟨_, hn⟩, _⟩ := hl
  refine ⟨fun x hx => ?global, fun p P hP => ?port, fun c hc x hx => ?slot, ?slot255, fun o ho _ => ?rxbuf,
    fun a ha => ?unmapped⟩
  case global =>
    obtain ⟨r, hr, e⟩ := mem_globalWords.1 hx
    apply readsWord_of_busRead
    rw [busTarget_glob hr, ← e]
    rfl
  case port =>
    have hp : p < s.params.nport := hports ▸ (List.getElem?_eq_some_iff.1 hP).1
    refine ⟨fun x hx => ?_, fun o ho _ => ?_⟩
    · obtain ⟨r, hr, e⟩ := mem_portWords.1 hx
      apply readsWord_of_busRead
      rw [busTarget_port hp hr, busRead, hP, ← e]
    · apply readsWord_of_busRead
      rw [busTarget_txbuf hn hp ho, busRead, hP, ← windowWord_eq]
  case slot =>
    apply readsWord_of_busRead
    rw [busTarget_slot hn (by omega), busRead, slot?_lt hc, hx, ← slotWord_eq]
  case slot255 =>
    apply readsWord_of_busRead
    rw [busTarget_slot hn (by decide), busRead, slot?_ge (by decide)]
  case rxbuf =>
    apply readsWord_of_busRead
    rw [busTarget_rxbuf hn ho, busRead, ← windowWord_eq]
  case unmapped =>
    apply readsWord_of_busRead
    rw [(busTarget_unmapped_iff hn hports a).2 ha]
    rfl

/-! ## Accesses without effect -/

/-- A write whose effect is none leaves the host bus's part of the cycle without effect. -/
theorem hostCycle_ineffective {inp : Input} {s : State}
    (h : busWrite inp.busWdata inp.busWstrb s (Input.target inp s) = .next s) : hostCycle inp s = .next s := by
  unfold hostCycle
  split
  · exact h
  · rfl

theorem fullStrobe_eq_false {strb : BitVec 4} (h : strb ≠ 0b1111) : fullStrobe strb = false := by
  simpa [fullStrobe] using h

/-- Only a full-word write of DISP_ACK acknowledges a dispatch. -/
theorem rxCycle_of_noAck {inp : Input} {s : State}
    (h : Input.target inp s ≠ .glob .dispAck ∨ inp.busWstrb ≠ 0b1111) : rxCycle inp s = rxStep inp s := by
  apply rxCycle_not_acked
  unfold acked Input.writesGlobal
  rcases h with h | h
  · simp [h]
  · simp [fullStrobe_eq_false h]

/-- A full-word write of a read-only global register changes nothing (20_memory.md R74). -/
theorem writeGlobal_readOnly {r : GlobalReg}
    (h : r ∉ [GlobalReg.gstatus, .devAddr, .tmult, .bps, .chunk, .dispAck]) (w : Word) (s : State) :
    writeGlobal w s r = s := by
  cases r
  case gstatus | devAddr | tmult | bps | chunk | dispAck => exact absurd (by decide) h
  all_goals rfl

/-- A port that the map names exists. -/
theorem port_of_target {inp : Input} {s : State} (hl : s.ports.length = s.params.nport) {p : Nat} {r : PortReg}
    (h : Input.target inp s = .port p r) : ∃ P, s.ports[p]? = some P :=
  ⟨_, List.getElem?_eq_getElem (hl ▸ (busTarget_eq_port h).1)⟩

/-- An address that reaches a TXBUF window is that of a port. -/
theorem busTarget_eq_txbuf {nport a p o : Nat} (h : busTarget nport a = .txbuf p o) : p < nport := by
  unfold busTarget txWindow at h
  split at h
  · unfold targetOf at h
    split at h <;> cases h
  · split at h
    · unfold targetOf at h
      split at h <;> cases h
    · split at h
      · cases h
      · split at h
        · cases h
        · split at h
          · cases h
            omega
          · cases h

/-- Settles O52: each target's write does nothing by the strobe or by the register, and its answer is by the target. -/
theorem ineffectiveBusAccesses : Obligations.IneffectiveBusAccesses := by
  intro s inp hl
  refine ⟨fun legal => ?mapped, fun h => ?unmapped, fun h strobe => ?partialStrobe, fun h strobe => ?readOnly,
    fun h => ?rxbuf, fun h => ?reads⟩
  case mapped => exact busTarget_unmapped_iff legal.2.1.2 hl _
  case unmapped =>
    exact ⟨hostCycle_ineffective (by rw [h]; rfl), rxCycle_of_noAck (.inl (by rw [h]; nofun)), rfl, rfl⟩
  case partialStrobe =>
    have part := fullStrobe_eq_false strobe
    refine ⟨hostCycle_ineffective ?_, rxCycle_of_noAck (.inr strobe), ?_⟩ <;>
      rcases h with ⟨r, h⟩ | ⟨p, r, h⟩ | ⟨c, h⟩ <;> rw [h]
    all_goals simp [busWrite, writeResp, part]
  case readOnly =>
    have full : fullStrobe inp.busWstrb = true := by rw [strobe]; rfl
    rcases h with ⟨c, h⟩ | ⟨p, h⟩ | ⟨r, h, readOnly⟩
    · refine ⟨hostCycle_ineffective ?_, rxCycle_of_noAck (.inl ?_), ?_⟩ <;> rw [h]
      · rfl
      · nofun
      · simp [writeResp, full]
    · refine ⟨hostCycle_ineffective ?_, rxCycle_of_noAck (.inl ?_), ?_⟩ <;> rw [h]
      · simp [busWrite, full, writePort]
      · nofun
      · simp [writeResp, full]
    · refine ⟨hostCycle_ineffective ?_, rxCycle_of_noAck (.inl ?_), ?_⟩ <;> rw [h]
      · simp [busWrite, full, writeGlobal_readOnly readOnly]
      · rintro ⟨⟩
        exact readOnly (by decide)
      · simp [writeResp, full]
  case rxbuf =>
    obtain ⟨o, h⟩ := h
    exact ⟨hostCycle_ineffective (by rw [h]; rfl), rxCycle_of_noAck (.inl (by rw [h]; nofun)), by rw [h]; rfl⟩
  case reads =>
    cases htgt : Input.target inp s with
    | unmapped => exact absurd htgt h
    | port p r =>
      obtain ⟨P, hP⟩ := port_of_target hl htgt
      simp [busRead, hP]
    | txbuf p o =>
      have hp : p < s.ports.length := hl ▸ busTarget_eq_txbuf htgt
      simp [busRead, List.getElem?_eq_getElem hp]
    | _ => rfl

end Sys2Proof.Machine
end

section
/-! Whole cycles: a step runs the decoded instruction (10_state.md section 1), the MULT handler against a host write of TMULT
(20_memory.md R85), the EXIT cycle (44_engine_tx.md R288), and the run that never stops (60_exceptions.md R352). -/

namespace Sys2Proof.Machine

/-! ## A step runs the decoded instruction -/

theorem andThen_assoc (r : Result) (f g : State → Result) :
    andThen (andThen r f) g = andThen r fun s => andThen (f s) g := by
  cases r <;> rfl

/-- A step that is neither a reset nor HALTED runs the agents one after another and joins them. -/
theorem step_active {s : State} (hr : (nextInput s).rst = false) (hh : s.halted = false) :
    step s = andThen (hostCycle (nextInput s) s) fun h =>
      andThen (txCycle (nextInput s) s h) fun a =>
        andThen (rxCycle (nextInput s) s) fun r =>
          .next { joinAgents s a r with env := s.env.advance (outputs (nextInput s) s) } := by
  unfold step cycle activeCycle
  simp only [hr, hh, Bool.false_eq_true, if_false, andThen_assoc]
  rfl

/-- The PCMD write of port `p` is a full-word write at its address. -/
theorem writesWord_pcmdWrite {p : Nat} (hp : p < 8) (w : Word) : WritesWord (pcmdWrite p w) (0x100 + 0x100 * p + 0) w := by
  refine ⟨rfl, rfl, rfl, ?_, rfl⟩
  unfold Input.byteAddr pcmdWrite portBase
  simp only [BitVec.toNat_ofNat]
  omega

/-- The host bus's part of a cycle with a PCMD write runs the command. -/
theorem hostCycle_pcmdWrite {s : State} {p : Nat} (hl : s.params.Legal) (hp : p < s.params.nport) (w : Word) :
    hostCycle (pcmdWrite p w) s = exec (decodeCommand p w) s :=
  WritesWord.hostCycle_port (writesWord_pcmdWrite (Nat.lt_of_lt_of_le hp hl.2.1.2) w) (r := .pcmd) (by decide) hp

/-- A PCMD write acknowledges no dispatch. -/
theorem rxCycle_pcmdWrite {s : State} {p : Nat} (hl : s.params.Legal) (hp : p < s.params.nport) (w : Word) :
    rxCycle (pcmdWrite p w) s = rxStep (pcmdWrite p w) s := by
  apply rxCycle_of_noAck
  left
  have hw := writesWord_pcmdWrite (Nat.lt_of_lt_of_le hp hl.2.1.2) w
  rw [hw.target, busTarget_port hp (r := .pcmd) (by decide)]
  nofun

/-- Where no body is read and nothing is offered, the RX engine does nothing. -/
theorem rxStep_quiet {inp : Input} {s : State} (hs : s.rx.rs.inBody = false) (hf : inp.rxFault = false)
    (hv : inp.rxValid = false) : rxStep inp s = .next s := by
  have header : headerCycle inp s = s := by simp [headerCycle, hf, hv]
  unfold rxStep
  cases hr : s.rx.rs with
  | hdr | fhdr => simp only [header]
  | dwait | dead => rfl
  | body | fbody => rw [hr] at hs; cases hs

/-- Joining a command's state with an RX engine that did nothing leaves the command's. -/
theorem joinAgents_command {i : Instr} {p : Nat} {s t : State} (hi : i.source = .pcmd p) (h : exec i s = .next t)
    (hh : s.halted = false) : joinAgents s t s = t := by
  have e := exec_command_frame hi h
  unfold joinAgents
  rw [if_neg (by simp [hh]), e]
  unfold joinRx
  split <;> rfl

/-- Settles O5: the write reaches PCMD of the port; where the engines do nothing, the join leaves the command's state. -/
theorem stepRunsTheDecodedCommand : Obligations.StepRunsTheDecodedCommand := by
  intro s p w i f hl hh hd
  have port : p < s.params.nport ∧ i = decodeCommand p w := by
    by_cases hp : p < s.params.nport
    · have e := decode_lanes_append (src := .pcmd p) (fun q hq => by cases hq; exact hp) w []
      rw [List.append_nil, hd] at e
      cases e
      exact ⟨hp, rfl⟩
    · simp [decode, lanes, hp] at hd
  obtain ⟨hp, rfl⟩ := port
  have cycle := step_active (s := s.given (pcmdWrite p w)) rfl hh
  have next : nextInput (s.given (pcmdWrite p w)) = pcmdWrite p w := rfl
  rw [next, hostCycle_pcmdWrite (s := s.given (pcmdWrite p w)) hl hp] at cycle
  refine ⟨cycle, fun hs ht hg t he => ?_⟩
  have tx : txCycle (pcmdWrite p w) (s.given (pcmdWrite p w)) t = .next t := by
    rw [txCycle_idle (s := s.given (pcmdWrite p w)) ht, grantCycle_none (s := s.given (pcmdWrite p w)) hg]
  have rx := rxStep_quiet (inp := pcmdWrite p w) (s := s.given (pcmdWrite p w)) hs rfl rfl
  rw [cycle, he, andThen_next, tx, andThen_next, rxCycle_pcmdWrite (s := s.given (pcmdWrite p w)) hl hp, rx, andThen_next,
    joinAgents_command (decodeCommand_source p w) he hh]

/-- Settles O6: the host bus does nothing, and the RX engine's step is the decoded instruction. -/
theorem stepRunsTheDecodedFrame : Obligations.StepRunsTheDecodedFrame := by
  intro s inp h body i f hh hr hb ho hcase hd
  have decoded : decodeCode h.code = i := by
    have four : decode s.params.nport .wire (headerEncode h ++ body) = .ok (decodeWord .wire h.word, body) := rfl
    have word : decodeWord .wire h.word = (decodeCode h.code, h.fields) := decodeWord_wire h.fields h.code
    rw [four, word] at hd
    cases hd
    rfl
  have completes : completing s = some h.code := by
    unfold completing
    rcases hcase with ⟨hs, rfl⟩ | ⟨hs, hn, hc⟩
    · simp [ho, hs]
    · simp [ho, hs, hn, bundleCode, hc]
  have noWrite : NoWrite inp := .inl hb
  have cycle := step_active (s := s.given inp) hr hh
  have next : nextInput (s.given inp) = inp := rfl
  rw [next, hostCycle_of_noWrite noWrite, andThen_next, rxCycle_of_noWrite noWrite,
    rxStep_completing (s := s.given inp) completes, decoded] at cycle
  exact cycle

/-! ## TMULT -/

/-- Does the decision write TMULT (42_dispatch.md R208)? -/
def Action.writesTmult : Action → Bool
  | .setMult _ => true
  | .setInf => true
  | .drop => false
  | .rangeFault => false
  | .noop => false
  | .wait _ _ => false
  | .rejectMult => false
  | .halt => false

theorem nextTmult_of_not_writes {x : Action} (h : x.writesTmult = false) (t : TMult) : x.nextTmult t = t := by
  cases x <;> cases h <;> rfl

/-- In its completion cycle a frame writes TMULT as its decision does; a top-level BUNDLE_HEADER does not. -/
theorem multWrites_completing {s s1 : State} {c : Byte} (hc : completing s = some c) (h1 : classify s = .next s1)
    (hb : c = codeBundle → s.rx.rs = .fbody) : multWrites s = (decision c s s1).writesTmult := by
  unfold multWrites decision
  rw [hc, h1]
  change (if s.rx.rs = .fbody then _ else _) = _
  by_cases hf : s.rx.rs = .fbody
  · have frame : theFrame c s = bundleFrame c s := if_pos hf
    have bundle : classified s s1 = closeFragment s s1 := if_pos hf
    rw [if_pos hf, frame, bundle]
    cases frameAction (bundleFrame c s) (closeFragment s s1) <;> rfl
  · have frame : theFrame c s = topFrame c s := if_neg hf
    have top : classified s s1 = s1 := if_neg hf
    rw [if_neg hf, frame, top, if_neg (mt hb hf)]
    cases frameAction (topFrame c s) s1 <;> rfl

/-- Only an accepted frame with code 3 writes TMULT. -/
theorem Decides.writesTmult {s : State} {c : Byte} {x : Action} (h : Decides s c x) (hx : x.writesTmult = true) :
    c = 3 ∧ FrameAccepted s := by
  cases h
  case mult h ha _ => exact ⟨h, ha⟩
  all_goals cases hx

theorem multWrites_eq_true {s : State} (slots : SlotsOk s) (h : multWrites s = true) :
    completing s = some 3 ∧ FrameAccepted s := by
  cases hc : completing s with
  | none => simp [multWrites, hc] at h
  | some c =>
    cases h1 : classify s with
    | next s1 =>
      by_cases hb : c = codeBundle → s.rx.rs = .fbody
      · rw [multWrites_completing hc h1 hb] at h
        obtain ⟨rfl, ha⟩ := (decision_decides h1 slots c).writesTmult h
        exact ⟨rfl, ha⟩
      · obtain ⟨hcode, hf⟩ := Classical.not_imp.1 hb
        simp [multWrites, hc, h1, hcode, hf] at h
    | _ => simp [multWrites, hc, h1] at h

/-- A move of the RX engine that changes TMULT is a write of it. -/
theorem RxMove.tmult {inp : Input} {s r : State} (h : RxMove inp s r) (slots : SlotsOk s) (hr : r.tmult ≠ s.tmult) :
    multWrites s = true := by
  have kept {s1 : State} (h1 : classify s = .next s1) : s1.tmult = s.tmult := by rw [classify_frame h1]
  cases h
  case frame c s1 hc h1 =>
    rw [delivered_tmult _ c h1] at hr
    obtain rfl : c = 3 := by
      by_contra other
      exact hr ((decision_decides h1 slots c).tmult other _)
    rw [multWrites_completing hc h1 (absurd · (by decide))]
    by_contra notWrites
    exact hr (nextTmult_of_not_writes (Bool.eq_false_iff.2 notWrites) _)
  case headerByte =>
    rcases takeHeaderByte_cases inp.rxData s with ⟨_, _, _, _, e⟩ | e <;> rw [e] at hr <;> exact absurd rfl hr
  case start s1 n _ _ h1 _ => exact absurd (kept h1) hr
  case discard s1 _ h1 => exact absurd (kept h1) hr
  case fragment s1 _ _ h1 => exact absurd (kept h1) hr
  all_goals exact absurd rfl hr

theorem joinAgents_tmult (s a r : State) :
    (joinAgents s a r).tmult = if multWrites s = true then r.tmult else a.tmult := by
  unfold joinAgents
  split <;> rfl

/-- The MULT in a cycle with a host write of TMULT: the handler's where it writes, the host's where it does not. -/
theorem activeCycle_tmult {s t r : State} {inp : Input} {w : Word} (hw : WritesWord inp 0x14 w)
    (ht : activeCycle inp s = .next t) (hr : rxStep inp s = .next r) :
    t.tmult = if multWrites s = true then r.tmult else ⟨w.extractLsb' 0 16, w.getLsbD 16⟩ := by
  obtain ⟨h, h1, ht⟩ := andThen_eq_next.1 ht
  obtain ⟨a, h2, ht⟩ := andThen_eq_next.1 ht
  obtain ⟨r', h3, ht⟩ := andThen_eq_next.1 ht
  cases ht
  have noAck : Input.target inp s ≠ .glob .dispAck := by
    rw [hw.target, busTarget_glob (r := .tmult) (by decide)]
    decide
  rw [rxCycle_of_noAck (.inl noAck), hr] at h3
  cases h3
  rw [(configurationWrites s inp w).2.1 hw] at h1
  cases h1
  have tx : a.tmult = ⟨w.extractLsb' 0 16, w.getLsbD 16⟩ := by rw [txCycle_frame h2]
  rw [joinAgents_tmult, tx]

/-- Settles O55: the join takes the handler's TMULT exactly where its decision writes it. -/
theorem multHandlerWinsOverTheHost : Obligations.MultHandlerWinsOverTheHost := by
  intro s t r inp w slots _ hw ht hr
  have tmult := activeCycle_tmult hw ht hr
  refine ⟨fun changed => ?changed, fun hc ha => ?accepted, fun no => ?none⟩
  case changed => rw [tmult, if_pos ((rxStep_move hr).tmult slots changed)]
  case accepted =>
    rw [rxStep_completing hc] at hr
    rcases exec_frame_next (code_decodeCode 3) hr with ⟨s1, h1, rfl⟩ | ⟨bundle, _⟩
    · have slot : s.slots[(3 : Byte).toNat]? = some .mult := slots.reserved_entry (by decide)
      have decides : decision 3 s s1 = multDecision (s1.rxBytes (reportedLen s)) := by
        rw [decision_slot h1 ha (by decide) slot, slotAction_mult]
      rw [multWrites_completing hc h1 (absurd · (by decide)), delivered_tmult _ _ h1, decides, multDecision] at tmult
      rw [delivered_rxBytes _ _ h1]
      refine ⟨fun q hp => ?_, fun hp => ?_, fun hp => ?_⟩ <;> rw [tmult, hp] <;> rfl
    · exact absurd bundle (by decide)
  case none =>
    have notWrites : ¬ multWrites s = true := fun h =>
      no.elim (absurd (multWrites_eq_true slots h).1) (absurd (multWrites_eq_true slots h).2)
    rw [tmult, if_neg notWrites]

/-! ## The machine never stops -/

theorem onIdlePort_answers {s : State} {p : Nat} (hp : p < s.ports.length) (body : Port → State) :
    ∃ t, onIdlePort p s body = .next t := by
  have hP := List.getElem?_eq_getElem hp
  by_cases idle : s.ports[p].pst = .idle
  · exact ⟨_, onIdlePort_idle hP idle⟩
  · exact ⟨_, onIdlePort_busy hP idle⟩

/-- A command answers wherever its port exists. -/
theorem exec_command_answers {i : Instr} {p : Nat} (hi : i.source = .pcmd p) {s : State} (hp : p < s.ports.length) :
    ∃ t, exec i s = .next t := by
  obtain ⟨body, e⟩ := exec_command_eq hi s
  rw [e]
  exact onIdlePort_answers hp body

/-- A register write to an existing port answers. -/
theorem writePort_answers {p : Nat} {w : Word} {s : State} (hp : p < s.ports.length) (r : PortReg) :
    ∃ t, writePort p w s r = .next t := by
  cases r
  case pcmd => exact exec_command_answers (decodeCommand_source p w) hp
  all_goals exact ⟨_, rfl⟩

/-- The host bus's part of a cycle always answers: the map knows no port that State does not hold. -/
theorem Inv.hostCycle_answers {s : State} (hi : Inv s) (inp : Input) : ∃ h, hostCycle inp s = .next h := by
  unfold hostCycle
  split
  case isFalse => exact ⟨_, rfl⟩
  case isTrue =>
    cases htgt : Input.target inp s with
    | port p r =>
      have hp : p < s.ports.length := by
        rw [hi.tx.ports]
        exact (busTarget_eq_port htgt).1
      unfold busWrite
      dsimp only
      split
      · exact writePort_answers hp r
      · exact ⟨_, rfl⟩
    | _ => exact ⟨_, rfl⟩

/-- The TX engine's part of a cycle always answers: a SEND cycle has a byte to offer. -/
theorem Inv.txCycle_answers {s : State} (hi : Inv s) (inp : Input) (h : State) : ∃ a, txCycle inp s h = .next a := by
  unfold txCycle
  cases hs : s.tx.ts with
  | idle | pace => exact ⟨_, rfl⟩
  | send =>
    have offers : ¬ s.tx.pos ≥ s.tx.total := Nat.not_le.2 (hi.tx.send hs).1
    dsimp only
    unfold sendCycle
    rw [if_neg offers]
    split
    · exact ⟨_, rfl⟩
    · split <;> exact ⟨_, rfl⟩

/-- A body cycle answers: neither padding nor byte leaves RXBUF. -/
theorem Inv.bodyCycle_answers {s : State} (hi : Inv s) (hh : s.halted = false) (inp : Input) :
    ∃ r, bodyCycle inp s = .next r := by
  have fits := hi.rx.fits hh
  obtain ⟨s1, h1⟩ := classify_next fits
  unfold bodyCycle
  split
  case isTrue =>
    unfold classifyCycle
    cases completing s with
    | none => exact ⟨_, by dsimp only; rw [endFragment, h1, andThen_next]⟩
    | some c =>
      rcases exec_frame_cases (code_decodeCode c) s with ⟨x, hx, _⟩ | ⟨_, t, _, e⟩
      · rw [h1] at hx; cases hx
      · exact ⟨t, e⟩
  case isFalse reading =>
    have more : s.rx.bcnt ≠ s.rx.cur.len.toNat := (bodyOver_eq_false.1 (Bool.eq_false_iff.2 reading)).1
    have := hi.rx.bcnt
    have room : ¬ bodyBase s + s.rx.bcnt ≥ maxPayload := by omega
    unfold readBody
    rw [if_neg room]
    split
    · exact ⟨_, rfl⟩
    · split <;> exact ⟨_, rfl⟩

/-- The RX engine's part of a cycle always answers. -/
theorem Inv.rxCycle_answers {s : State} (hi : Inv s) (hh : s.halted = false) (inp : Input) :
    ∃ r, rxCycle inp s = .next r := by
  have engine : ∃ u, rxStep inp s = .next u := by
    unfold rxStep
    cases s.rx.rs with
    | body | fbody => exact hi.bodyCycle_answers hh inp
    | _ => exact ⟨_, rfl⟩
  obtain ⟨u, hu⟩ := engine
  exact ⟨_, by rw [rxCycle, hu, andThen_next]⟩

/-- Every step from a state of the invariant answers: in an active cycle each of the three agents does. -/
theorem Inv.step_answers {s : State} (hi : Inv s) : ∃ t, step s = .next t := by
  cases hr : (nextInput s).rst with
  | true => exact ⟨_, step_eq_next.2 (.inl ⟨hr, rfl⟩)⟩
  | false =>
    cases hh : s.halted with
    | true => exact ⟨_, step_eq_next.2 (.inr (.inl ⟨hr, hh, rfl⟩))⟩
    | false =>
      obtain ⟨h, h1⟩ := hi.hostCycle_answers (nextInput s)
      obtain ⟨a, h2⟩ := hi.txCycle_answers (nextInput s) h
      obtain ⟨r, h3⟩ := hi.rxCycle_answers hh (nextInput s)
      exact ⟨_, step_eq_next.2 (.inr (.inr ⟨hr, hh, h, a, r, h1, h2, h3, rfl⟩))⟩

/-- A run goes on from the state its first step answers. -/
theorem core_run_succ {s t : State} (h : step s = .next t) (k : Nat) :
    Sys2Proof.core.run (k + 1) s = Sys2Proof.core.run k t := by
  have first : Sys2Proof.core.step s = .next t := h
  simp only [Host.Core.run, first]

/-- Settles O60, by induction on the length of the run: every step answers and keeps the invariant. -/
theorem invariantStatesRunForEver : Obligations.InvariantStatesRunForEver := by
  intro k
  induction k with
  | zero => exact fun s hi => ⟨s, rfl, hi⟩
  | succ k ih =>
    intro s hi
    obtain ⟨t, ht⟩ := hi.step_answers
    obtain ⟨u, hu, hinv⟩ := ih t (stepKeepsTheInvariant s t hi ht)
    exact ⟨u, (core_run_succ ht k).trans hu, hinv⟩

/-! ## The EXIT cycle -/

/-- The port `P`, as the bus write leaves it, at the end of an EXIT cycle from `s` (44_engine_tx.md R288). -/
def exitPort (inp : Input) (s : State) (p : Nat) (P : Port) : Port :=
  if p = s.tx.gp ∧ s.tx.ts = .send ∧ inp.txFault = true then P.sendEnds .txFault s.tx.pos
  else if p = s.tx.gp ∧ s.tx.ts = .pace ∧ s.tx.pr = 1 ∧ s.tx.pos = s.tx.total then P.sendEnds .ok s.tx.total
  else abortedPort P
    (if p = s.tx.gp ∧ s.tx.ts ≠ .idle then s.tx.pos + (if s.tx.ts = .send ∧ inp.txReady = true then 1 else 0) else 0)

/-- A port whose send neither fails nor completes in the EXIT cycle is aborted. -/
theorem exitPort_aborted {inp : Input} {s : State} (hf : s.tx.ts = .send → inp.txFault = false)
    (hc : s.tx.ts = .pace → s.tx.pr = 1 → s.tx.pos ≠ s.tx.total) (p : Nat) (P : Port) :
    exitPort inp s p P = abortedPort P
      (if p = s.tx.gp ∧ s.tx.ts ≠ .idle then s.tx.pos + (if s.tx.ts = .send ∧ inp.txReady = true then 1 else 0)
      else 0) := by
  have noFailure : ¬ (p = s.tx.gp ∧ s.tx.ts = .send ∧ inp.txFault = true) := by
    rintro ⟨_, hs, fault⟩
    rw [hf hs] at fault
    cases fault
  have noCompletion : ¬ (p = s.tx.gp ∧ s.tx.ts = .pace ∧ s.tx.pr = 1 ∧ s.tx.pos = s.tx.total) := fun ⟨_, hs, hpr, hpos⟩ =>
    hc hs hpr hpos
  rw [exitPort, if_neg noFailure, if_neg noCompletion]

theorem abortPort_eq (tx : TxEngine) (p : Nat) (P : Port) :
    abortPort tx p P = abortedPort P (if p = tx.gp ∧ tx.ts ≠ .idle then tx.pos else 0) := rfl

/-- Where the TX engine's part of the cycle leaves the lock free, the abort finds no bytes transferred. -/
theorem abortPort_free {tx : TxEngine} (h : tx.ts = .idle) (p : Nat) (P : Port) : abortPort tx p P = abortedPort P 0 := by
  rw [abortPort_eq, if_neg fun held => held.2 h]

/-- An accepted send is aborted alike whether it has been granted the lock in the cycle or not. -/
theorem abortedPort_granted {P : Port} (h : P.pst ≠ .idle) (n : Nat) :
    abortedPort { P with pst := .active } n = abortedPort P n := by
  rw [abortedPort, if_neg (by nofun), abortedPort, if_neg h]

/-- The end of a send stands against the abort of the same cycle; every other port is aborted with no bytes. -/
theorem abort_endSend {s h : State} {p : Nat} {P : Port} (hP : h.ports[p]? = some P) (e : ErrCode) (r : Nat) :
    ((endSend s h e r).ports[p]?).map (abortPort (endSend s h e r).tx p) =
      some (if p = s.tx.gp then P.sendEnds e r else abortedPort P 0) := by
  have port : (endSend s h e r).ports[p]? = some (if p = s.tx.gp then P.sendEnds e r else P) := by
    rw [endSend, updPort_getElem?]
    by_cases hp : s.tx.gp = p
    · simp [hp, hP]
    · simp [hp, Ne.symm hp, hP]
  rw [port, Option.map_some, abortPort_free rfl]
  split <;> rfl

/-- The EXIT abort over each move of the TX engine. -/
theorem TxMove.abort {inp : Input} {s h a : State} (hm : TxMove inp s h a) (tx : h.tx = s.tx)
    (busy : ∀ q, s.pst q ≠ .idle → h.pst q = s.pst q) {p : Nat} {P : Port} (hP : h.ports[p]? = some P) :
    (a.ports[p]?).map (abortPort a.tx p) = some (exitPort inp s p P) := by
  cases hm
  case noGrant hs =>
    rw [hP, Option.map_some, tx, abortPort_free hs,
      exitPort_aborted (by rw [hs]; nofun) (by rw [hs]; nofun), if_neg fun held => held.2 hs]
  case grant q hs hq hw =>
    have aborted : exitPort inp s p P = abortedPort P 0 := by
      rw [exitPort_aborted (by rw [hs]; nofun) (by rw [hs]; nofun), if_neg fun held => held.2 hs]
    have none_sent : abortPort (grantPort s h q).tx p = fun Q => abortedPort Q 0 := by
      funext Q
      exact (abortPort_eq _ _ _).trans (congrArg _ (ite_self 0))
    have port : (grantPort s h q).ports[p]? = some (if q = p then { P with pst := .active } else P) := by
      rw [grantPort, updPort_getElem?]
      split <;> simp [hP]
    rw [aborted, none_sent, port, Option.map_some]
    split
    · rename_i e
      have waiting : P.pst ≠ .idle := by
        rw [← pst_of_port hP, ← e, busy q (by rw [hw]; decide), hw]
        decide
      rw [abortedPort_granted waiting]
    · rfl
  case fail hs hf =>
    rw [abort_endSend hP]
    by_cases hp : p = s.tx.gp
    · simp [exitPort, hp, hs, hf]
    · simp [exitPort, hp]
  case complete hs hpr hpos =>
    rw [abort_endSend hP]
    by_cases hp : p = s.tx.gp
    · simp [exitPort, hp, hs, hpr, hpos]
    · simp [exitPort, hp]
  case transfer hs _ hf hr =>
    rw [hP, Option.map_some, exitPort_aborted (fun _ => hf) (by rw [hs]; nofun), abortPort_eq]
    unfold txAdvance
    split <;> simp [hs, hr]
  case stall hs hf hr =>
    rw [hP, Option.map_some, exitPort_aborted (fun _ => hf) (by rw [hs]; nofun), abortPort_eq, tx]
    simp [hr]
  case nextChunk hs hpos =>
    rw [hP, Option.map_some, exitPort_aborted (by rw [hs]; nofun) (fun _ _ => hpos), abortPort_eq]
    simp [hs]
  case count hs hpr =>
    rw [hP, Option.map_some, exitPort_aborted (by rw [hs]; nofun) (fun _ e => absurd e hpr), abortPort_eq]
    simp [hs]

/-- In the completion cycle of an accepted EXIT frame the RX engine halts the block. -/
theorem Inv.exit_halts {s u : State} {inp : Input} (hi : Inv s) (hh : s.halted = false) (hc : completing s = some 5)
    (ha : FrameAccepted s) (hu : rxStep inp s = .next u) : u.halted = true := by
  have slot : s.slots[5]? = some .exit := hi.slots.reserved_entry (by decide)
  obtain ⟨t, ht, _, _, _, _, _, _, halts, _⟩ :=
    exitFrameHaltsAndAborts s ⟨hi.buffers.rxbuf, hi.rx.fits hh⟩ ha slot
  have run : rxStep inp s = .next t := (rxStep_completing hc inp).trans ht
  rw [hu] at run
  cases run
  exact halts

/-- Settles O33: the abort comes last, over what the TX engine's move of the cycle leaves. -/
theorem exitCycleEndsEverySend : Obligations.ExitCycleEndsEverySend := by
  intro s t h inp hi hh hc ha hx ht
  obtain ⟨h', hx', ht⟩ := andThen_eq_next.1 ht
  obtain rfl : h = h' := by rw [hx] at hx'; cases hx'; rfl
  obtain ⟨a, h2, ht⟩ := andThen_eq_next.1 ht
  obtain ⟨r, h3, ht⟩ := andThen_eq_next.1 ht
  obtain ⟨u, hu, _⟩ := andThen_eq_next.1 h3
  have halts : r.halted = true := (rxCycle_halted hu h3).trans (hi.exit_halts hh hc ha hu)
  have aborts : joinAgents s a r = (joinRx s a r).exitAbort := if_pos halts
  rw [aborts] at ht
  cases ht
  refine ⟨rfl, rfl, fun p P hP => ?_⟩
  have tx : h.tx = s.tx := by rw [hostCycle_frame hx]
  rw [exitAbort_getElem?]
  exact (txCycle_move h2).abort tx (fun q busy => (hostCycle_busy hx busy).1) hP

end Sys2Proof.Machine
end

section
/-! The codec (40_codec.md): the fragment count with leading zeros, the multiplier literal, and the classified body in
RXBUF. -/

namespace Sys2Proof.Machine

/-! ## Decimal values -/

theorem decimal_cons_zero (ds : List Byte) : decimal (0x30 :: ds) = decimal ds := rfl

/-- Leading zeros do not count. -/
theorem decimal_replicate_zero (k : Nat) (ds : List Byte) : decimal (List.replicate k 0x30 ++ ds) = decimal ds := by
  induction k with
  | zero => rfl
  | succ k ih => rw [List.replicate_succ, List.cons_append, decimal_cons_zero, ih]

/-- A string of digits is below the power of ten of its length. -/
theorem decimal_lt {ds : List Byte} (h : ∀ b ∈ ds, isDigit b = true) : decimal ds < 10 ^ ds.length := by
  induction ds using List.reverseRecOn with
  | nil => decide
  | append_singleton ds b ih =>
    have front := ih fun x hx => h x (List.mem_append_left _ hx)
    have last := isDigit_iff.1 (h b (by simp))
    rw [decimal_append_singleton, List.length_append, List.length_singleton, pow_succ]
    omega

/-! ## The fragment count -/

theorem length_formatCount (n : Nat) : (formatCount n).length = if n ≤ 9 then 1 else if n ≤ 99 then 2 else 3 := by
  unfold formatCount
  split
  case isTrue one => rw [if_pos (Nat.le_of_lt_succ one)]; rfl
  case isFalse one =>
    rw [if_neg (mt Nat.lt_succ_of_le one)]
    split
    case isTrue two => rw [if_pos (Nat.le_of_lt_succ two)]; rfl
    case isFalse two => rw [if_neg (mt Nat.lt_succ_of_le two)]; rfl

/-- Settles O38: the count's bytes are digits also behind leading zeros, and these leave its value. -/
theorem fragmentCountRoundTrip : Obligations.FragmentCountRoundTrip := by
  intro n k h1 h2
  refine ⟨?_, length_formatCount n⟩
  obtain ⟨digits, count⟩ := formatCount_digits (n := n) (by omega)
  have value : decimal (List.replicate k 0x30 ++ formatCount n) = n := (decimal_replicate_zero k _).trans count
  have allDigits : ∀ b ∈ List.replicate k 0x30 ++ formatCount n, isDigit b = true := by
    intro b hb
    rcases List.mem_append.1 hb with h | h
    · rw [List.eq_of_mem_replicate h]
      decide
    · exact List.all_eq_true.1 digits b h
  rw [parseCount_digits allDigits (value.symm ▸ h1) (value.symm ▸ h2), value]

/-! ## The multiplier literal -/

/-- The numeric literals of 30_encoding.md R109 with their integer and fraction digits: D+, D+ "." D*, "." D+. -/
def Numeral (body ip fr : List Byte) : Prop :=
  (∀ b ∈ ip, isDigit b = true) ∧ (∀ b ∈ fr, isDigit b = true) ∧
    ((body = ip ∧ fr = [] ∧ ip ≠ []) ∨ (body = ip ++ 0x2E :: fr ∧ ¬ (ip = [] ∧ fr = [])))

/-- The literal None is no numeral: it begins with no digit and no point. -/
theorem not_numeral_none {ip fr : List Byte} : ¬ Numeral [0x4E, 0x6F, 0x6E, 0x65] ip fr := by
  rintro ⟨digits, _, ⟨e, _, _⟩ | ⟨e, _⟩⟩
  · have := digits 0x4E (by simp [← e])
    revert this
    decide
  · cases ip with
    | nil => cases e
    | cons b ip =>
      obtain ⟨rfl, _⟩ := List.cons.inj e
      have := digits 0x4E (by simp)
      revert this
      decide

theorem takeWhile_digits {ip : List Byte} (h : ∀ b ∈ ip, isDigit b = true) (rest : List Byte) :
    (ip ++ 0x2E :: rest).takeWhile isDigit = ip ∧ (ip ++ 0x2E :: rest).dropWhile isDigit = 0x2E :: rest := by
  rw [List.takeWhile_append_of_pos h, List.dropWhile_append_of_pos h]
  exact ⟨List.append_nil _, rfl⟩

/-- A numeral is parsed to the value of its digits. -/
theorem parseMult_of_numeral {body ip fr : List Byte} (h : Numeral body ip fr) : parseMult body = multValue ip fr := by
  have notNone : body ≠ [0x4E, 0x6F, 0x6E, 0x65] := fun e => not_numeral_none (e ▸ h)
  obtain ⟨hip, hfr, ⟨rfl, rfl, ne⟩ | ⟨rfl, ne⟩⟩ := h
  · have all : body.takeWhile isDigit = body := List.takeWhile_eq_self_iff.2 hip
    have rest : body.dropWhile isDigit = [] := List.dropWhile_eq_nil_iff.2 hip
    rw [parseMult, if_neg notNone]
    simp [all, rest, ne]
  · obtain ⟨front, rest⟩ := takeWhile_digits hip fr
    have digits : fr.all isDigit = true := List.all_eq_true.2 hfr
    rw [parseMult, if_neg notNone, front, rest]
    exact if_pos ⟨rfl, digits, ne⟩

/-- What is neither None nor a numeral is rejected. -/
theorem parseMult_cases (body : List Byte) :
    (body = [0x4E, 0x6F, 0x6E, 0x65] ∧ parseMult body = .inf) ∨ (∃ ip fr, Numeral body ip fr) ∨
      parseMult body = .reject := by
  by_cases isNone : body = [0x4E, 0x6F, 0x6E, 0x65]
  · exact .inl ⟨isNone, if_pos isNone⟩
  · right
    have digits : ∀ b ∈ body.takeWhile isDigit, isDigit b = true := fun b hb => List.mem_takeWhile_imp hb
    have parts := List.takeWhile_append_dropWhile (p := isDigit) (l := body)
    rw [parseMult, if_neg isNone]
    dsimp only
    cases rest : body.dropWhile isDigit with
    | nil =>
      rw [rest, List.append_nil] at parts
      by_cases empty : body.takeWhile isDigit = []
      · exact .inr (by rw [empty]; rfl)
      · exact .inl ⟨_, [], digits, nofun, .inl ⟨parts.symm, rfl, empty⟩⟩
    | cons point fr =>
      rw [rest] at parts
      by_cases literal : point = 0x2E ∧ fr.all isDigit = true ∧ ¬ (body.takeWhile isDigit = [] ∧ fr = [])
      · obtain ⟨rfl, hfr, ne⟩ := literal
        exact .inl ⟨_, fr, digits, List.all_eq_true.1 hfr, .inr ⟨parts.symm, ne⟩⟩
      · exact .inr (if_neg literal)

/-- The value of a numeral, where its integer part fits: it is below 2^16. -/
theorem multValue_eq_value {ip fr : List Byte} (hfr : ∀ b ∈ fr, isDigit b = true) {q : BitVec 16} :
    multValue ip fr = .value q ↔
      decimal ip ≤ 255 ∧ q.toNat = decimal ip * 256 + decimal fr * 256 / 10 ^ fr.length := by
  have fraction : decimal fr * 256 / 10 ^ fr.length < 256 := by
    rw [Nat.div_lt_iff_lt_mul (by positivity), Nat.mul_comm 256]
    exact Nat.mul_lt_mul_of_pos_right (decimal_lt hfr) (by decide)
  unfold multValue
  split
  · simp only [reduceCtorEq, false_iff]
    omega
  · rw [MultParse.value.injEq, ← BitVec.toNat_inj, BitVec.toNat_ofNat, Nat.mod_eq_of_lt (by omega)]
    omega

/-- The values are those of the numerals. -/
theorem parseMult_eq_value {body : List Byte} {q : BitVec 16} :
    parseMult body = .value q ↔ ∃ ip fr, Numeral body ip fr ∧ decimal ip ≤ 255 ∧
      q.toNat = decimal ip * 256 + decimal fr * 256 / 10 ^ fr.length := by
  constructor
  · intro h
    rcases parseMult_cases body with ⟨_, e⟩ | ⟨ip, fr, num⟩ | e
    · rw [h] at e; cases e
    · exact ⟨ip, fr, num, (multValue_eq_value num.2.1).1 ((parseMult_of_numeral num).symm.trans h)⟩
    · rw [h] at e; cases e
  · rintro ⟨ip, fr, num, value⟩
    rw [parseMult_of_numeral num]
    exact (multValue_eq_value num.2.1).2 value

/-- INF is the literal None alone. -/
theorem parseMult_eq_inf {body : List Byte} : parseMult body = .inf ↔ body = [0x4E, 0x6F, 0x6E, 0x65] := by
  refine ⟨fun h => ?_, fun e => if_pos e⟩
  rcases parseMult_cases body with ⟨isNone, _⟩ | ⟨ip, fr, num⟩ | e
  · exact isNone
  · rw [parseMult_of_numeral num, multValue] at h
    split at h <;> cases h
  · rw [h] at e; cases e

/-- Settles O39: the answers are INF for None, a value for the numerals, and rejection for the rest. -/
theorem multiplierLiteralGrammar : Obligations.MultiplierLiteralGrammar := by
  intro body
  refine ⟨parseMult_eq_inf, fun q => ?_, ?_⟩
  · rw [parseMult_eq_value]
    simp only [Numeral, isDigit_iff, and_assoc]
  · cases parseMult body <;> simp

/-! ## The classified body -/

theorem classifyBody_snd {fill : Byte} {len : Nat} {r : List Byte} (h : r.length ≤ len) :
    (classifyBody fill len r).2 = pad fill r len := by
  unfold classifyBody
  split
  · rfl
  · have none_missing : len - r.length = 0 := by omega
    rw [pad, none_missing]
    exact (List.append_nil r).symm

theorem classifyBody_broken {fill : Byte} {len : Nat} {r : List Byte} :
    (classifyBody fill len r).1 = .broken ↔ r.length < len := by
  unfold classifyBody
  split <;> simp_all

/-- A byte of the classified body: one that came, or the filler. -/
theorem rxByte_classify {s t : State} (h : classify s = .next t) (hm : s.rxbuf.wf) {k : Nat}
    (hk : k < s.rx.cur.len.toNat) :
    t.rxByte (bodyBase s + k) = if k < s.rx.bcnt then s.rxByte (bodyBase s + k) else s.params.fill := by
  have env : t.env = s.env := by rw [classify_frame h]
  unfold State.rxByte
  rw [classify_padded h hm, env]
  by_cases came : k < s.rx.bcnt
  · rw [if_neg (by omega), if_pos came]
  · rw [if_pos (by omega), if_neg came]
    rfl

/-- Settles O41, byte by byte. -/
theorem rxbufHoldsTheClassifiedBody : Obligations.RxbufHoldsTheClassifiedBody := by
  intro s t hm hb h
  constructor
  · rw [classifyBody_snd (by simpa using hb)]
    refine List.ext_getElem (by simp [pad]; omega) fun k hk _ => ?_
    have hk : k < s.rx.cur.len.toNat := by simpa using hk
    simp [pad, List.getElem_append, rxByte_classify h hm hk]
  · rw [classify_broken h]
    simp [brokenInc, isBroken, classifyBody_broken]

end Sys2Proof.Machine
end
